-- ==== Sys2Proof/Word.lean ====
section
/-! DEFINITION. The two word types of the machine (00_scope.md R7: XLEN = 8, ALEN = 16). -/

namespace Sys2Proof

/-- An 8-bit value: a register, a bus byte, an opcode (XLEN = 8, R7). -/
abbrev Byte := BitVec 8

/-- A 16-bit CPU address (ALEN = 16, R7). -/
abbrev Addr := BitVec 16

end Sys2Proof
end

