-- ==== Sys2Proof/Syntax.lean ====
section
/-! DEFINITION. The instruction set as syntax: addressing modes, mnemonics, operands, and one constructor of `Instr` per row of
the opcode table (30_encoding.md R178). A constructor's name is its mnemonic followed by its addressing mode. -/

namespace Sys2Proof

/-- The 13 addressing modes (00_scope.md R18; 30_encoding.md R172, R182 to R194). -/
inductive AddrMode where
  | imp | acc | imm | zp | zpx | zpy | abs | absx | absy | ind | indx | indy | rel
  deriving DecidableEq, Repr

/-- The 56 mnemonics (00_scope.md R2). -/
inductive Mnemonic where
  | lda | ldx | ldy | sta | stx | sty
  | tax | tay | txa | tya | tsx | txs | pha | php | pla | plp
  | adc | sbc | and | ora | eor | cmp | cpx | cpy | bit
  | asl | lsr | rol | ror | inc | dec | inx | iny | dex | dey
  | jmp | jsr | rts | bpl | bmi | bvc | bvs | bcc | bcs | bne | beq | brk | rti
  | clc | sec | cli | sei | clv | cld | sed | nop
  deriving DecidableEq, Repr

/-- An operand in one of the 13 addressing modes, holding what the instruction's own bytes give (30_encoding.md R173): an
immediate value, a zero-page address, a 16-bit address, or a signed branch offset. -/
inductive Operand where
  | imp
  | acc
  | imm (v : Byte)
  | zp (z : Byte)
  | zpx (z : Byte)
  | zpy (z : Byte)
  | abs (a : Addr)
  | absx (a : Addr)
  | absy (a : Addr)
  | ind (a : Addr)
  | indx (z : Byte)
  | indy (z : Byte)
  | rel (d : Int)
  deriving DecidableEq, Repr

/-- The instructions: one constructor per row of the opcode table (30_encoding.md R178). -/
inductive Instr where
  | ldaImm (v : Byte)
  | ldaZp (z : Byte)
  | ldaZpX (z : Byte)
  | ldaAbs (a : Addr)
  | ldaAbsX (a : Addr)
  | ldaAbsY (a : Addr)
  | ldaIndX (z : Byte)
  | ldaIndY (z : Byte)
  | ldxImm (v : Byte)
  | ldxZp (z : Byte)
  | ldxZpY (z : Byte)
  | ldxAbs (a : Addr)
  | ldxAbsY (a : Addr)
  | ldyImm (v : Byte)
  | ldyZp (z : Byte)
  | ldyZpX (z : Byte)
  | ldyAbs (a : Addr)
  | ldyAbsX (a : Addr)
  | staZp (z : Byte)
  | staZpX (z : Byte)
  | staAbs (a : Addr)
  | staAbsX (a : Addr)
  | staAbsY (a : Addr)
  | staIndX (z : Byte)
  | staIndY (z : Byte)
  | stxZp (z : Byte)
  | stxZpY (z : Byte)
  | stxAbs (a : Addr)
  | styZp (z : Byte)
  | styZpX (z : Byte)
  | styAbs (a : Addr)
  | tax
  | tay
  | txa
  | tya
  | tsx
  | txs
  | pha
  | php
  | pla
  | plp
  | adcImm (v : Byte)
  | adcZp (z : Byte)
  | adcZpX (z : Byte)
  | adcAbs (a : Addr)
  | adcAbsX (a : Addr)
  | adcAbsY (a : Addr)
  | adcIndX (z : Byte)
  | adcIndY (z : Byte)
  | sbcImm (v : Byte)
  | sbcZp (z : Byte)
  | sbcZpX (z : Byte)
  | sbcAbs (a : Addr)
  | sbcAbsX (a : Addr)
  | sbcAbsY (a : Addr)
  | sbcIndX (z : Byte)
  | sbcIndY (z : Byte)
  | andImm (v : Byte)
  | andZp (z : Byte)
  | andZpX (z : Byte)
  | andAbs (a : Addr)
  | andAbsX (a : Addr)
  | andAbsY (a : Addr)
  | andIndX (z : Byte)
  | andIndY (z : Byte)
  | oraImm (v : Byte)
  | oraZp (z : Byte)
  | oraZpX (z : Byte)
  | oraAbs (a : Addr)
  | oraAbsX (a : Addr)
  | oraAbsY (a : Addr)
  | oraIndX (z : Byte)
  | oraIndY (z : Byte)
  | eorImm (v : Byte)
  | eorZp (z : Byte)
  | eorZpX (z : Byte)
  | eorAbs (a : Addr)
  | eorAbsX (a : Addr)
  | eorAbsY (a : Addr)
  | eorIndX (z : Byte)
  | eorIndY (z : Byte)
  | cmpImm (v : Byte)
  | cmpZp (z : Byte)
  | cmpZpX (z : Byte)
  | cmpAbs (a : Addr)
  | cmpAbsX (a : Addr)
  | cmpAbsY (a : Addr)
  | cmpIndX (z : Byte)
  | cmpIndY (z : Byte)
  | cpxImm (v : Byte)
  | cpxZp (z : Byte)
  | cpxAbs (a : Addr)
  | cpyImm (v : Byte)
  | cpyZp (z : Byte)
  | cpyAbs (a : Addr)
  | bitZp (z : Byte)
  | bitAbs (a : Addr)
  | aslAcc
  | aslZp (z : Byte)
  | aslZpX (z : Byte)
  | aslAbs (a : Addr)
  | aslAbsX (a : Addr)
  | lsrAcc
  | lsrZp (z : Byte)
  | lsrZpX (z : Byte)
  | lsrAbs (a : Addr)
  | lsrAbsX (a : Addr)
  | rolAcc
  | rolZp (z : Byte)
  | rolZpX (z : Byte)
  | rolAbs (a : Addr)
  | rolAbsX (a : Addr)
  | rorAcc
  | rorZp (z : Byte)
  | rorZpX (z : Byte)
  | rorAbs (a : Addr)
  | rorAbsX (a : Addr)
  | incZp (z : Byte)
  | incZpX (z : Byte)
  | incAbs (a : Addr)
  | incAbsX (a : Addr)
  | decZp (z : Byte)
  | decZpX (z : Byte)
  | decAbs (a : Addr)
  | decAbsX (a : Addr)
  | inx
  | iny
  | dex
  | dey
  | jmpAbs (a : Addr)
  | jmpInd (a : Addr)
  | jsrAbs (a : Addr)
  | rts
  | bpl (d : Int)
  | bmi (d : Int)
  | bvc (d : Int)
  | bvs (d : Int)
  | bcc (d : Int)
  | bcs (d : Int)
  | bne (d : Int)
  | beq (d : Int)
  | brk
  | rti
  | clc
  | sec
  | cli
  | sei
  | clv
  | cld
  | sed
  | nop
  deriving DecidableEq, Repr

/-- The addressing mode of an operand (30_encoding.md R182 to R194). -/
def Operand.mode : Operand → AddrMode
  | .imp => .imp
  | .acc => .acc
  | .imm _ => .imm
  | .zp _ => .zp
  | .zpx _ => .zpx
  | .zpy _ => .zpy
  | .abs _ => .abs
  | .absx _ => .absx
  | .absy _ => .absy
  | .ind _ => .ind
  | .indx _ => .indx
  | .indy _ => .indy
  | .rel _ => .rel

/-- The fixed instruction length of each addressing mode (30_encoding.md R172). -/
def AddrMode.length : AddrMode → Nat
  | .imp | .acc => 1
  | .imm | .zp | .zpx | .zpy | .indx | .indy | .rel => 2
  | .abs | .absx | .absy | .ind => 3

/-- The instruction length of an operand's mode (30_encoding.md R172). -/
def Operand.length (o : Operand) : Nat := o.mode.length

/-- The mnemonic of each instruction (30_encoding.md R178). -/
def Instr.mnemonic : Instr → Mnemonic
  | .ldaImm _ | .ldaZp _ | .ldaZpX _ | .ldaAbs _ | .ldaAbsX _ | .ldaAbsY _ | .ldaIndX _ | .ldaIndY _ => .lda
  | .ldxImm _ | .ldxZp _ | .ldxZpY _ | .ldxAbs _ | .ldxAbsY _ => .ldx
  | .ldyImm _ | .ldyZp _ | .ldyZpX _ | .ldyAbs _ | .ldyAbsX _ => .ldy
  | .staZp _ | .staZpX _ | .staAbs _ | .staAbsX _ | .staAbsY _ | .staIndX _ | .staIndY _ => .sta
  | .stxZp _ | .stxZpY _ | .stxAbs _ => .stx
  | .styZp _ | .styZpX _ | .styAbs _ => .sty
  | .tax => .tax
  | .tay => .tay
  | .txa => .txa
  | .tya => .tya
  | .tsx => .tsx
  | .txs => .txs
  | .pha => .pha
  | .php => .php
  | .pla => .pla
  | .plp => .plp
  | .adcImm _ | .adcZp _ | .adcZpX _ | .adcAbs _ | .adcAbsX _ | .adcAbsY _ | .adcIndX _ | .adcIndY _ => .adc
  | .sbcImm _ | .sbcZp _ | .sbcZpX _ | .sbcAbs _ | .sbcAbsX _ | .sbcAbsY _ | .sbcIndX _ | .sbcIndY _ => .sbc
  | .andImm _ | .andZp _ | .andZpX _ | .andAbs _ | .andAbsX _ | .andAbsY _ | .andIndX _ | .andIndY _ => .and
  | .oraImm _ | .oraZp _ | .oraZpX _ | .oraAbs _ | .oraAbsX _ | .oraAbsY _ | .oraIndX _ | .oraIndY _ => .ora
  | .eorImm _ | .eorZp _ | .eorZpX _ | .eorAbs _ | .eorAbsX _ | .eorAbsY _ | .eorIndX _ | .eorIndY _ => .eor
  | .cmpImm _ | .cmpZp _ | .cmpZpX _ | .cmpAbs _ | .cmpAbsX _ | .cmpAbsY _ | .cmpIndX _ | .cmpIndY _ => .cmp
  | .cpxImm _ | .cpxZp _ | .cpxAbs _ => .cpx
  | .cpyImm _ | .cpyZp _ | .cpyAbs _ => .cpy
  | .bitZp _ | .bitAbs _ => .bit
  | .aslAcc | .aslZp _ | .aslZpX _ | .aslAbs _ | .aslAbsX _ => .asl
  | .lsrAcc | .lsrZp _ | .lsrZpX _ | .lsrAbs _ | .lsrAbsX _ => .lsr
  | .rolAcc | .rolZp _ | .rolZpX _ | .rolAbs _ | .rolAbsX _ => .rol
  | .rorAcc | .rorZp _ | .rorZpX _ | .rorAbs _ | .rorAbsX _ => .ror
  | .incZp _ | .incZpX _ | .incAbs _ | .incAbsX _ => .inc
  | .decZp _ | .decZpX _ | .decAbs _ | .decAbsX _ => .dec
  | .inx => .inx
  | .iny => .iny
  | .dex => .dex
  | .dey => .dey
  | .jmpAbs _ | .jmpInd _ => .jmp
  | .jsrAbs _ => .jsr
  | .rts => .rts
  | .bpl _ => .bpl
  | .bmi _ => .bmi
  | .bvc _ => .bvc
  | .bvs _ => .bvs
  | .bcc _ => .bcc
  | .bcs _ => .bcs
  | .bne _ => .bne
  | .beq _ => .beq
  | .brk => .brk
  | .rti => .rti
  | .clc => .clc
  | .sec => .sec
  | .cli => .cli
  | .sei => .sei
  | .clv => .clv
  | .cld => .cld
  | .sed => .sed
  | .nop => .nop

/-- The operand of each instruction, in its addressing mode (30_encoding.md R178). -/
def Instr.operand : Instr → Operand
  | .tax | .tay | .txa | .tya | .tsx | .txs | .pha | .php | .pla | .plp | .inx | .iny | .dex | .dey | .rts | .brk | .rti
  | .clc | .sec | .cli | .sei | .clv | .cld | .sed | .nop => .imp
  | .aslAcc | .lsrAcc | .rolAcc | .rorAcc => .acc
  | .ldaImm v | .ldxImm v | .ldyImm v | .adcImm v | .sbcImm v | .andImm v | .oraImm v | .eorImm v | .cmpImm v | .cpxImm v
  | .cpyImm v => .imm v
  | .ldaZp z | .ldxZp z | .ldyZp z | .staZp z | .stxZp z | .styZp z | .adcZp z | .sbcZp z | .andZp z | .oraZp z | .eorZp z
  | .cmpZp z | .cpxZp z | .cpyZp z | .bitZp z | .aslZp z | .lsrZp z | .rolZp z | .rorZp z | .incZp z | .decZp z => .zp z
  | .ldaZpX z | .ldyZpX z | .staZpX z | .styZpX z | .adcZpX z | .sbcZpX z | .andZpX z | .oraZpX z | .eorZpX z | .cmpZpX z
  | .aslZpX z | .lsrZpX z | .rolZpX z | .rorZpX z | .incZpX z | .decZpX z => .zpx z
  | .ldxZpY z | .stxZpY z => .zpy z
  | .ldaAbs a | .ldxAbs a | .ldyAbs a | .staAbs a | .stxAbs a | .styAbs a | .adcAbs a | .sbcAbs a | .andAbs a | .oraAbs a
  | .eorAbs a | .cmpAbs a | .cpxAbs a | .cpyAbs a | .bitAbs a | .aslAbs a | .lsrAbs a | .rolAbs a | .rorAbs a | .incAbs a
  | .decAbs a | .jmpAbs a | .jsrAbs a => .abs a
  | .ldaAbsX a | .ldyAbsX a | .staAbsX a | .adcAbsX a | .sbcAbsX a | .andAbsX a | .oraAbsX a | .eorAbsX a | .cmpAbsX a
  | .aslAbsX a | .lsrAbsX a | .rolAbsX a | .rorAbsX a | .incAbsX a | .decAbsX a => .absx a
  | .ldaAbsY a | .ldxAbsY a | .staAbsY a | .adcAbsY a | .sbcAbsY a | .andAbsY a | .oraAbsY a | .eorAbsY a | .cmpAbsY a => .absy a
  | .jmpInd a => .ind a
  | .ldaIndX z | .staIndX z | .adcIndX z | .sbcIndX z | .andIndX z | .oraIndX z | .eorIndX z | .cmpIndX z => .indx z
  | .ldaIndY z | .staIndY z | .adcIndY z | .sbcIndY z | .andIndY z | .oraIndY z | .eorIndY z | .cmpIndY z => .indy z
  | .bpl d | .bmi d | .bvc d | .bvs d | .bcc d | .bcs d | .bne d | .beq d => .rel d

/-- The length in bytes of an instruction (30_encoding.md R170, R172). -/
def Instr.length (i : Instr) : Nat := i.operand.length

end Sys2Proof
end

