-- ==== Sys2Proof/WellFormed.lean ====
section
/-! DEFINITION. Which terms of the syntax stand for an instruction the encoding can hold. Every operand but a branch offset is a
bit vector of exactly the width its encoding has; a branch offset is an integer, and one byte holds -128 to 127 (R173). -/

namespace Sys2Proof

/-- An operand fits its encoding: a branch offset lies in -128 to 127 (30_encoding.md R173); every other operand always does. -/
def Operand.wellFormed : Operand → Bool
  | .imp | .acc => true
  | .imm _ | .zp _ | .zpx _ | .zpy _ | .indx _ | .indy _ => true
  | .abs _ | .absx _ | .absy _ | .ind _ => true
  | .rel d => decide (-128 ≤ d) && decide (d ≤ 127)

/-- An instruction is well formed when its operand fits its encoding. -/
def Instr.wellFormed (i : Instr) : Bool := i.operand.wellFormed

end Sys2Proof
end

