-- ==== Sys2Proof/Decode.lean ====
section
/-! DEFINITION. The opcode table of 30_encoding.md R178 as data, the decoder (total on any bytes, rejecting by name) and the
encoder (R170 to R178). -/

namespace Sys2Proof

/-- One row of the opcode table (30_encoding.md R178): the opcode byte, the mnemonic and mode it selects, the base cycle count,
whether the row is marked `+p` (R195), and the instruction it builds from the bytes `b1` and `b2` that follow the opcode. -/
structure OpcodeRow where
  opcode : Byte
  mnemonic : Mnemonic
  mode : AddrMode
  cycles : Nat
  pageCross : Bool
  build : Byte → Byte → Instr

/-- The 16-bit operand of a three-byte instruction: byte 1 low, byte 2 high (30_encoding.md R173, 20_memory.md R105). -/
def operandWord (b1 b2 : Byte) : Addr := b2 ++ b1

/-- The rows whose opcode byte begins with the hexadecimal digit 0 (30_encoding.md R178). -/
def opcodeRows0 : List OpcodeRow := [
  ⟨0x00#8, .brk, .imp, 7, false, fun _ _ => .brk⟩,
  ⟨0x01#8, .ora, .indx, 6, false, fun b1 _ => .oraIndX b1⟩,
  ⟨0x05#8, .ora, .zp, 3, false, fun b1 _ => .oraZp b1⟩,
  ⟨0x06#8, .asl, .zp, 5, false, fun b1 _ => .aslZp b1⟩,
  ⟨0x08#8, .php, .imp, 3, false, fun _ _ => .php⟩,
  ⟨0x09#8, .ora, .imm, 2, false, fun b1 _ => .oraImm b1⟩,
  ⟨0x0A#8, .asl, .acc, 2, false, fun _ _ => .aslAcc⟩,
  ⟨0x0D#8, .ora, .abs, 4, false, fun b1 b2 => .oraAbs (operandWord b1 b2)⟩,
  ⟨0x0E#8, .asl, .abs, 6, false, fun b1 b2 => .aslAbs (operandWord b1 b2)⟩]

/-- The rows whose opcode byte begins with the hexadecimal digit 1 (30_encoding.md R178). -/
def opcodeRows1 : List OpcodeRow := [
  ⟨0x10#8, .bpl, .rel, 2, false, fun b1 _ => .bpl b1.toInt⟩,
  ⟨0x11#8, .ora, .indy, 5, true, fun b1 _ => .oraIndY b1⟩,
  ⟨0x15#8, .ora, .zpx, 4, false, fun b1 _ => .oraZpX b1⟩,
  ⟨0x16#8, .asl, .zpx, 6, false, fun b1 _ => .aslZpX b1⟩,
  ⟨0x18#8, .clc, .imp, 2, false, fun _ _ => .clc⟩,
  ⟨0x19#8, .ora, .absy, 4, true, fun b1 b2 => .oraAbsY (operandWord b1 b2)⟩,
  ⟨0x1D#8, .ora, .absx, 4, true, fun b1 b2 => .oraAbsX (operandWord b1 b2)⟩,
  ⟨0x1E#8, .asl, .absx, 7, false, fun b1 b2 => .aslAbsX (operandWord b1 b2)⟩]

/-- The rows whose opcode byte begins with the hexadecimal digit 2 (30_encoding.md R178). -/
def opcodeRows2 : List OpcodeRow := [
  ⟨0x20#8, .jsr, .abs, 6, false, fun b1 b2 => .jsrAbs (operandWord b1 b2)⟩,
  ⟨0x21#8, .and, .indx, 6, false, fun b1 _ => .andIndX b1⟩,
  ⟨0x24#8, .bit, .zp, 3, false, fun b1 _ => .bitZp b1⟩,
  ⟨0x25#8, .and, .zp, 3, false, fun b1 _ => .andZp b1⟩,
  ⟨0x26#8, .rol, .zp, 5, false, fun b1 _ => .rolZp b1⟩,
  ⟨0x28#8, .plp, .imp, 4, false, fun _ _ => .plp⟩,
  ⟨0x29#8, .and, .imm, 2, false, fun b1 _ => .andImm b1⟩,
  ⟨0x2A#8, .rol, .acc, 2, false, fun _ _ => .rolAcc⟩,
  ⟨0x2C#8, .bit, .abs, 4, false, fun b1 b2 => .bitAbs (operandWord b1 b2)⟩,
  ⟨0x2D#8, .and, .abs, 4, false, fun b1 b2 => .andAbs (operandWord b1 b2)⟩,
  ⟨0x2E#8, .rol, .abs, 6, false, fun b1 b2 => .rolAbs (operandWord b1 b2)⟩]

/-- The rows whose opcode byte begins with the hexadecimal digit 3 (30_encoding.md R178). -/
def opcodeRows3 : List OpcodeRow := [
  ⟨0x30#8, .bmi, .rel, 2, false, fun b1 _ => .bmi b1.toInt⟩,
  ⟨0x31#8, .and, .indy, 5, true, fun b1 _ => .andIndY b1⟩,
  ⟨0x35#8, .and, .zpx, 4, false, fun b1 _ => .andZpX b1⟩,
  ⟨0x36#8, .rol, .zpx, 6, false, fun b1 _ => .rolZpX b1⟩,
  ⟨0x38#8, .sec, .imp, 2, false, fun _ _ => .sec⟩,
  ⟨0x39#8, .and, .absy, 4, true, fun b1 b2 => .andAbsY (operandWord b1 b2)⟩,
  ⟨0x3D#8, .and, .absx, 4, true, fun b1 b2 => .andAbsX (operandWord b1 b2)⟩,
  ⟨0x3E#8, .rol, .absx, 7, false, fun b1 b2 => .rolAbsX (operandWord b1 b2)⟩]

/-- The rows whose opcode byte begins with the hexadecimal digit 4 (30_encoding.md R178). -/
def opcodeRows4 : List OpcodeRow := [
  ⟨0x40#8, .rti, .imp, 6, false, fun _ _ => .rti⟩,
  ⟨0x41#8, .eor, .indx, 6, false, fun b1 _ => .eorIndX b1⟩,
  ⟨0x45#8, .eor, .zp, 3, false, fun b1 _ => .eorZp b1⟩,
  ⟨0x46#8, .lsr, .zp, 5, false, fun b1 _ => .lsrZp b1⟩,
  ⟨0x48#8, .pha, .imp, 3, false, fun _ _ => .pha⟩,
  ⟨0x49#8, .eor, .imm, 2, false, fun b1 _ => .eorImm b1⟩,
  ⟨0x4A#8, .lsr, .acc, 2, false, fun _ _ => .lsrAcc⟩,
  ⟨0x4C#8, .jmp, .abs, 3, false, fun b1 b2 => .jmpAbs (operandWord b1 b2)⟩,
  ⟨0x4D#8, .eor, .abs, 4, false, fun b1 b2 => .eorAbs (operandWord b1 b2)⟩,
  ⟨0x4E#8, .lsr, .abs, 6, false, fun b1 b2 => .lsrAbs (operandWord b1 b2)⟩]

/-- The rows whose opcode byte begins with the hexadecimal digit 5 (30_encoding.md R178). -/
def opcodeRows5 : List OpcodeRow := [
  ⟨0x50#8, .bvc, .rel, 2, false, fun b1 _ => .bvc b1.toInt⟩,
  ⟨0x51#8, .eor, .indy, 5, true, fun b1 _ => .eorIndY b1⟩,
  ⟨0x55#8, .eor, .zpx, 4, false, fun b1 _ => .eorZpX b1⟩,
  ⟨0x56#8, .lsr, .zpx, 6, false, fun b1 _ => .lsrZpX b1⟩,
  ⟨0x58#8, .cli, .imp, 2, false, fun _ _ => .cli⟩,
  ⟨0x59#8, .eor, .absy, 4, true, fun b1 b2 => .eorAbsY (operandWord b1 b2)⟩,
  ⟨0x5D#8, .eor, .absx, 4, true, fun b1 b2 => .eorAbsX (operandWord b1 b2)⟩,
  ⟨0x5E#8, .lsr, .absx, 7, false, fun b1 b2 => .lsrAbsX (operandWord b1 b2)⟩]

/-- The rows whose opcode byte begins with the hexadecimal digit 6 (30_encoding.md R178). -/
def opcodeRows6 : List OpcodeRow := [
  ⟨0x60#8, .rts, .imp, 6, false, fun _ _ => .rts⟩,
  ⟨0x61#8, .adc, .indx, 6, false, fun b1 _ => .adcIndX b1⟩,
  ⟨0x65#8, .adc, .zp, 3, false, fun b1 _ => .adcZp b1⟩,
  ⟨0x66#8, .ror, .zp, 5, false, fun b1 _ => .rorZp b1⟩,
  ⟨0x68#8, .pla, .imp, 4, false, fun _ _ => .pla⟩,
  ⟨0x69#8, .adc, .imm, 2, false, fun b1 _ => .adcImm b1⟩,
  ⟨0x6A#8, .ror, .acc, 2, false, fun _ _ => .rorAcc⟩,
  ⟨0x6C#8, .jmp, .ind, 5, false, fun b1 b2 => .jmpInd (operandWord b1 b2)⟩,
  ⟨0x6D#8, .adc, .abs, 4, false, fun b1 b2 => .adcAbs (operandWord b1 b2)⟩,
  ⟨0x6E#8, .ror, .abs, 6, false, fun b1 b2 => .rorAbs (operandWord b1 b2)⟩]

/-- The rows whose opcode byte begins with the hexadecimal digit 7 (30_encoding.md R178). -/
def opcodeRows7 : List OpcodeRow := [
  ⟨0x70#8, .bvs, .rel, 2, false, fun b1 _ => .bvs b1.toInt⟩,
  ⟨0x71#8, .adc, .indy, 5, true, fun b1 _ => .adcIndY b1⟩,
  ⟨0x75#8, .adc, .zpx, 4, false, fun b1 _ => .adcZpX b1⟩,
  ⟨0x76#8, .ror, .zpx, 6, false, fun b1 _ => .rorZpX b1⟩,
  ⟨0x78#8, .sei, .imp, 2, false, fun _ _ => .sei⟩,
  ⟨0x79#8, .adc, .absy, 4, true, fun b1 b2 => .adcAbsY (operandWord b1 b2)⟩,
  ⟨0x7D#8, .adc, .absx, 4, true, fun b1 b2 => .adcAbsX (operandWord b1 b2)⟩,
  ⟨0x7E#8, .ror, .absx, 7, false, fun b1 b2 => .rorAbsX (operandWord b1 b2)⟩]

/-- The rows whose opcode byte begins with the hexadecimal digit 8 (30_encoding.md R178). -/
def opcodeRows8 : List OpcodeRow := [
  ⟨0x81#8, .sta, .indx, 6, false, fun b1 _ => .staIndX b1⟩,
  ⟨0x84#8, .sty, .zp, 3, false, fun b1 _ => .styZp b1⟩,
  ⟨0x85#8, .sta, .zp, 3, false, fun b1 _ => .staZp b1⟩,
  ⟨0x86#8, .stx, .zp, 3, false, fun b1 _ => .stxZp b1⟩,
  ⟨0x88#8, .dey, .imp, 2, false, fun _ _ => .dey⟩,
  ⟨0x8A#8, .txa, .imp, 2, false, fun _ _ => .txa⟩,
  ⟨0x8C#8, .sty, .abs, 4, false, fun b1 b2 => .styAbs (operandWord b1 b2)⟩,
  ⟨0x8D#8, .sta, .abs, 4, false, fun b1 b2 => .staAbs (operandWord b1 b2)⟩,
  ⟨0x8E#8, .stx, .abs, 4, false, fun b1 b2 => .stxAbs (operandWord b1 b2)⟩]

/-- The rows whose opcode byte begins with the hexadecimal digit 9 (30_encoding.md R178). -/
def opcodeRows9 : List OpcodeRow := [
  ⟨0x90#8, .bcc, .rel, 2, false, fun b1 _ => .bcc b1.toInt⟩,
  ⟨0x91#8, .sta, .indy, 6, false, fun b1 _ => .staIndY b1⟩,
  ⟨0x94#8, .sty, .zpx, 4, false, fun b1 _ => .styZpX b1⟩,
  ⟨0x95#8, .sta, .zpx, 4, false, fun b1 _ => .staZpX b1⟩,
  ⟨0x96#8, .stx, .zpy, 4, false, fun b1 _ => .stxZpY b1⟩,
  ⟨0x98#8, .tya, .imp, 2, false, fun _ _ => .tya⟩,
  ⟨0x99#8, .sta, .absy, 5, false, fun b1 b2 => .staAbsY (operandWord b1 b2)⟩,
  ⟨0x9A#8, .txs, .imp, 2, false, fun _ _ => .txs⟩,
  ⟨0x9D#8, .sta, .absx, 5, false, fun b1 b2 => .staAbsX (operandWord b1 b2)⟩]

/-- The rows whose opcode byte begins with the hexadecimal digit A (30_encoding.md R178). -/
def opcodeRowsA : List OpcodeRow := [
  ⟨0xA0#8, .ldy, .imm, 2, false, fun b1 _ => .ldyImm b1⟩,
  ⟨0xA1#8, .lda, .indx, 6, false, fun b1 _ => .ldaIndX b1⟩,
  ⟨0xA2#8, .ldx, .imm, 2, false, fun b1 _ => .ldxImm b1⟩,
  ⟨0xA4#8, .ldy, .zp, 3, false, fun b1 _ => .ldyZp b1⟩,
  ⟨0xA5#8, .lda, .zp, 3, false, fun b1 _ => .ldaZp b1⟩,
  ⟨0xA6#8, .ldx, .zp, 3, false, fun b1 _ => .ldxZp b1⟩,
  ⟨0xA8#8, .tay, .imp, 2, false, fun _ _ => .tay⟩,
  ⟨0xA9#8, .lda, .imm, 2, false, fun b1 _ => .ldaImm b1⟩,
  ⟨0xAA#8, .tax, .imp, 2, false, fun _ _ => .tax⟩,
  ⟨0xAC#8, .ldy, .abs, 4, false, fun b1 b2 => .ldyAbs (operandWord b1 b2)⟩,
  ⟨0xAD#8, .lda, .abs, 4, false, fun b1 b2 => .ldaAbs (operandWord b1 b2)⟩,
  ⟨0xAE#8, .ldx, .abs, 4, false, fun b1 b2 => .ldxAbs (operandWord b1 b2)⟩]

/-- The rows whose opcode byte begins with the hexadecimal digit B (30_encoding.md R178). -/
def opcodeRowsB : List OpcodeRow := [
  ⟨0xB0#8, .bcs, .rel, 2, false, fun b1 _ => .bcs b1.toInt⟩,
  ⟨0xB1#8, .lda, .indy, 5, true, fun b1 _ => .ldaIndY b1⟩,
  ⟨0xB4#8, .ldy, .zpx, 4, false, fun b1 _ => .ldyZpX b1⟩,
  ⟨0xB5#8, .lda, .zpx, 4, false, fun b1 _ => .ldaZpX b1⟩,
  ⟨0xB6#8, .ldx, .zpy, 4, false, fun b1 _ => .ldxZpY b1⟩,
  ⟨0xB8#8, .clv, .imp, 2, false, fun _ _ => .clv⟩,
  ⟨0xB9#8, .lda, .absy, 4, true, fun b1 b2 => .ldaAbsY (operandWord b1 b2)⟩,
  ⟨0xBA#8, .tsx, .imp, 2, false, fun _ _ => .tsx⟩,
  ⟨0xBC#8, .ldy, .absx, 4, true, fun b1 b2 => .ldyAbsX (operandWord b1 b2)⟩,
  ⟨0xBD#8, .lda, .absx, 4, true, fun b1 b2 => .ldaAbsX (operandWord b1 b2)⟩,
  ⟨0xBE#8, .ldx, .absy, 4, true, fun b1 b2 => .ldxAbsY (operandWord b1 b2)⟩]

/-- The rows whose opcode byte begins with the hexadecimal digit C (30_encoding.md R178). -/
def opcodeRowsC : List OpcodeRow := [
  ⟨0xC0#8, .cpy, .imm, 2, false, fun b1 _ => .cpyImm b1⟩,
  ⟨0xC1#8, .cmp, .indx, 6, false, fun b1 _ => .cmpIndX b1⟩,
  ⟨0xC4#8, .cpy, .zp, 3, false, fun b1 _ => .cpyZp b1⟩,
  ⟨0xC5#8, .cmp, .zp, 3, false, fun b1 _ => .cmpZp b1⟩,
  ⟨0xC6#8, .dec, .zp, 5, false, fun b1 _ => .decZp b1⟩,
  ⟨0xC8#8, .iny, .imp, 2, false, fun _ _ => .iny⟩,
  ⟨0xC9#8, .cmp, .imm, 2, false, fun b1 _ => .cmpImm b1⟩,
  ⟨0xCA#8, .dex, .imp, 2, false, fun _ _ => .dex⟩,
  ⟨0xCC#8, .cpy, .abs, 4, false, fun b1 b2 => .cpyAbs (operandWord b1 b2)⟩,
  ⟨0xCD#8, .cmp, .abs, 4, false, fun b1 b2 => .cmpAbs (operandWord b1 b2)⟩,
  ⟨0xCE#8, .dec, .abs, 6, false, fun b1 b2 => .decAbs (operandWord b1 b2)⟩]

/-- The rows whose opcode byte begins with the hexadecimal digit D (30_encoding.md R178). -/
def opcodeRowsD : List OpcodeRow := [
  ⟨0xD0#8, .bne, .rel, 2, false, fun b1 _ => .bne b1.toInt⟩,
  ⟨0xD1#8, .cmp, .indy, 5, true, fun b1 _ => .cmpIndY b1⟩,
  ⟨0xD5#8, .cmp, .zpx, 4, false, fun b1 _ => .cmpZpX b1⟩,
  ⟨0xD6#8, .dec, .zpx, 6, false, fun b1 _ => .decZpX b1⟩,
  ⟨0xD8#8, .cld, .imp, 2, false, fun _ _ => .cld⟩,
  ⟨0xD9#8, .cmp, .absy, 4, true, fun b1 b2 => .cmpAbsY (operandWord b1 b2)⟩,
  ⟨0xDD#8, .cmp, .absx, 4, true, fun b1 b2 => .cmpAbsX (operandWord b1 b2)⟩,
  ⟨0xDE#8, .dec, .absx, 7, false, fun b1 b2 => .decAbsX (operandWord b1 b2)⟩]

/-- The rows whose opcode byte begins with the hexadecimal digit E (30_encoding.md R178). -/
def opcodeRowsE : List OpcodeRow := [
  ⟨0xE0#8, .cpx, .imm, 2, false, fun b1 _ => .cpxImm b1⟩,
  ⟨0xE1#8, .sbc, .indx, 6, false, fun b1 _ => .sbcIndX b1⟩,
  ⟨0xE4#8, .cpx, .zp, 3, false, fun b1 _ => .cpxZp b1⟩,
  ⟨0xE5#8, .sbc, .zp, 3, false, fun b1 _ => .sbcZp b1⟩,
  ⟨0xE6#8, .inc, .zp, 5, false, fun b1 _ => .incZp b1⟩,
  ⟨0xE8#8, .inx, .imp, 2, false, fun _ _ => .inx⟩,
  ⟨0xE9#8, .sbc, .imm, 2, false, fun b1 _ => .sbcImm b1⟩,
  ⟨0xEA#8, .nop, .imp, 2, false, fun _ _ => .nop⟩,
  ⟨0xEC#8, .cpx, .abs, 4, false, fun b1 b2 => .cpxAbs (operandWord b1 b2)⟩,
  ⟨0xED#8, .sbc, .abs, 4, false, fun b1 b2 => .sbcAbs (operandWord b1 b2)⟩,
  ⟨0xEE#8, .inc, .abs, 6, false, fun b1 b2 => .incAbs (operandWord b1 b2)⟩]

/-- The rows whose opcode byte begins with the hexadecimal digit F (30_encoding.md R178). -/
def opcodeRowsF : List OpcodeRow := [
  ⟨0xF0#8, .beq, .rel, 2, false, fun b1 _ => .beq b1.toInt⟩,
  ⟨0xF1#8, .sbc, .indy, 5, true, fun b1 _ => .sbcIndY b1⟩,
  ⟨0xF5#8, .sbc, .zpx, 4, false, fun b1 _ => .sbcZpX b1⟩,
  ⟨0xF6#8, .inc, .zpx, 6, false, fun b1 _ => .incZpX b1⟩,
  ⟨0xF8#8, .sed, .imp, 2, false, fun _ _ => .sed⟩,
  ⟨0xF9#8, .sbc, .absy, 4, true, fun b1 b2 => .sbcAbsY (operandWord b1 b2)⟩,
  ⟨0xFD#8, .sbc, .absx, 4, true, fun b1 b2 => .sbcAbsX (operandWord b1 b2)⟩,
  ⟨0xFE#8, .inc, .absx, 7, false, fun b1 b2 => .incAbsX (operandWord b1 b2)⟩]

/-- The complete opcode table: 151 rows, sorted by opcode byte (30_encoding.md R178). -/
def opcodeTable : List OpcodeRow :=
  opcodeRows0 ++ opcodeRows1 ++ opcodeRows2 ++ opcodeRows3 ++ opcodeRows4 ++ opcodeRows5 ++ opcodeRows6 ++ opcodeRows7 ++
  opcodeRows8 ++ opcodeRows9 ++ opcodeRowsA ++ opcodeRowsB ++ opcodeRowsC ++ opcodeRowsD ++ opcodeRowsE ++ opcodeRowsF

/-- The row an opcode byte selects, if any (30_encoding.md R175). -/
def lookupOpcode (op : Byte) : Option OpcodeRow := opcodeTable.find? (fun r => r.opcode == op)

/-- The length the opcode byte alone determines (30_encoding.md R170); none for an illegal byte. -/
def opcodeLength (op : Byte) : Option Nat := (lookupOpcode op).map (fun r => r.mode.length)

/-- Why bytes do not decode: the opcode byte has no row (30_encoding.md R177), or the bytes end inside the instruction. -/
inductive DecodeError where
  | illegalOpcode (op : Byte)
  | truncated
  deriving DecidableEq, Repr

/-- Decode the instruction at the front of a byte list and give back the bytes after it (30_encoding.md R170, R173, R175). -/
def decode : List Byte → Except DecodeError (Instr × List Byte)
  | [] => .error .truncated
  | op :: rest =>
    match lookupOpcode op with
    | none => .error (.illegalOpcode op)
    | some r =>
      match r.mode.length, rest with
      | 1, _ => .ok (r.build 0 0, rest)
      | 2, b1 :: tail => .ok (r.build b1 0, tail)
      | 3, b1 :: b2 :: tail => .ok (r.build b1 b2, tail)
      | _, _ => .error .truncated

/-- The opcode byte of each instruction, from the encoding tables of files 40 to 45 (30_encoding.md R178). -/
def Instr.opcode : Instr → Byte
  | .ldaImm _ => 0xA9#8
  | .ldaZp _ => 0xA5#8
  | .ldaZpX _ => 0xB5#8
  | .ldaAbs _ => 0xAD#8
  | .ldaAbsX _ => 0xBD#8
  | .ldaAbsY _ => 0xB9#8
  | .ldaIndX _ => 0xA1#8
  | .ldaIndY _ => 0xB1#8
  | .ldxImm _ => 0xA2#8
  | .ldxZp _ => 0xA6#8
  | .ldxZpY _ => 0xB6#8
  | .ldxAbs _ => 0xAE#8
  | .ldxAbsY _ => 0xBE#8
  | .ldyImm _ => 0xA0#8
  | .ldyZp _ => 0xA4#8
  | .ldyZpX _ => 0xB4#8
  | .ldyAbs _ => 0xAC#8
  | .ldyAbsX _ => 0xBC#8
  | .staZp _ => 0x85#8
  | .staZpX _ => 0x95#8
  | .staAbs _ => 0x8D#8
  | .staAbsX _ => 0x9D#8
  | .staAbsY _ => 0x99#8
  | .staIndX _ => 0x81#8
  | .staIndY _ => 0x91#8
  | .stxZp _ => 0x86#8
  | .stxZpY _ => 0x96#8
  | .stxAbs _ => 0x8E#8
  | .styZp _ => 0x84#8
  | .styZpX _ => 0x94#8
  | .styAbs _ => 0x8C#8
  | .tax => 0xAA#8
  | .tay => 0xA8#8
  | .txa => 0x8A#8
  | .tya => 0x98#8
  | .tsx => 0xBA#8
  | .txs => 0x9A#8
  | .pha => 0x48#8
  | .php => 0x08#8
  | .pla => 0x68#8
  | .plp => 0x28#8
  | .adcImm _ => 0x69#8
  | .adcZp _ => 0x65#8
  | .adcZpX _ => 0x75#8
  | .adcAbs _ => 0x6D#8
  | .adcAbsX _ => 0x7D#8
  | .adcAbsY _ => 0x79#8
  | .adcIndX _ => 0x61#8
  | .adcIndY _ => 0x71#8
  | .sbcImm _ => 0xE9#8
  | .sbcZp _ => 0xE5#8
  | .sbcZpX _ => 0xF5#8
  | .sbcAbs _ => 0xED#8
  | .sbcAbsX _ => 0xFD#8
  | .sbcAbsY _ => 0xF9#8
  | .sbcIndX _ => 0xE1#8
  | .sbcIndY _ => 0xF1#8
  | .andImm _ => 0x29#8
  | .andZp _ => 0x25#8
  | .andZpX _ => 0x35#8
  | .andAbs _ => 0x2D#8
  | .andAbsX _ => 0x3D#8
  | .andAbsY _ => 0x39#8
  | .andIndX _ => 0x21#8
  | .andIndY _ => 0x31#8
  | .oraImm _ => 0x09#8
  | .oraZp _ => 0x05#8
  | .oraZpX _ => 0x15#8
  | .oraAbs _ => 0x0D#8
  | .oraAbsX _ => 0x1D#8
  | .oraAbsY _ => 0x19#8
  | .oraIndX _ => 0x01#8
  | .oraIndY _ => 0x11#8
  | .eorImm _ => 0x49#8
  | .eorZp _ => 0x45#8
  | .eorZpX _ => 0x55#8
  | .eorAbs _ => 0x4D#8
  | .eorAbsX _ => 0x5D#8
  | .eorAbsY _ => 0x59#8
  | .eorIndX _ => 0x41#8
  | .eorIndY _ => 0x51#8
  | .cmpImm _ => 0xC9#8
  | .cmpZp _ => 0xC5#8
  | .cmpZpX _ => 0xD5#8
  | .cmpAbs _ => 0xCD#8
  | .cmpAbsX _ => 0xDD#8
  | .cmpAbsY _ => 0xD9#8
  | .cmpIndX _ => 0xC1#8
  | .cmpIndY _ => 0xD1#8
  | .cpxImm _ => 0xE0#8
  | .cpxZp _ => 0xE4#8
  | .cpxAbs _ => 0xEC#8
  | .cpyImm _ => 0xC0#8
  | .cpyZp _ => 0xC4#8
  | .cpyAbs _ => 0xCC#8
  | .bitZp _ => 0x24#8
  | .bitAbs _ => 0x2C#8
  | .aslAcc => 0x0A#8
  | .aslZp _ => 0x06#8
  | .aslZpX _ => 0x16#8
  | .aslAbs _ => 0x0E#8
  | .aslAbsX _ => 0x1E#8
  | .lsrAcc => 0x4A#8
  | .lsrZp _ => 0x46#8
  | .lsrZpX _ => 0x56#8
  | .lsrAbs _ => 0x4E#8
  | .lsrAbsX _ => 0x5E#8
  | .rolAcc => 0x2A#8
  | .rolZp _ => 0x26#8
  | .rolZpX _ => 0x36#8
  | .rolAbs _ => 0x2E#8
  | .rolAbsX _ => 0x3E#8
  | .rorAcc => 0x6A#8
  | .rorZp _ => 0x66#8
  | .rorZpX _ => 0x76#8
  | .rorAbs _ => 0x6E#8
  | .rorAbsX _ => 0x7E#8
  | .incZp _ => 0xE6#8
  | .incZpX _ => 0xF6#8
  | .incAbs _ => 0xEE#8
  | .incAbsX _ => 0xFE#8
  | .decZp _ => 0xC6#8
  | .decZpX _ => 0xD6#8
  | .decAbs _ => 0xCE#8
  | .decAbsX _ => 0xDE#8
  | .inx => 0xE8#8
  | .iny => 0xC8#8
  | .dex => 0xCA#8
  | .dey => 0x88#8
  | .jmpAbs _ => 0x4C#8
  | .jmpInd _ => 0x6C#8
  | .jsrAbs _ => 0x20#8
  | .rts => 0x60#8
  | .bpl _ => 0x10#8
  | .bmi _ => 0x30#8
  | .bvc _ => 0x50#8
  | .bvs _ => 0x70#8
  | .bcc _ => 0x90#8
  | .bcs _ => 0xB0#8
  | .bne _ => 0xD0#8
  | .beq _ => 0xF0#8
  | .brk => 0x00#8
  | .rti => 0x40#8
  | .clc => 0x18#8
  | .sec => 0x38#8
  | .cli => 0x58#8
  | .sei => 0x78#8
  | .clv => 0xB8#8
  | .cld => 0xD8#8
  | .sed => 0xF8#8
  | .nop => 0xEA#8

/-- The operand bytes that follow the opcode (30_encoding.md R171, R173): a 16-bit address is stored low byte first. -/
def Operand.bytes : Operand → List Byte
  | .imp | .acc => []
  | .imm b | .zp b | .zpx b | .zpy b | .indx b | .indy b => [b]
  | .abs a | .absx a | .absy a | .ind a => [a.extractLsb' 0 8, a.extractLsb' 8 8]
  | .rel d => [BitVec.ofInt 8 d]

/-- The bytes of an instruction: its opcode, then its operand bytes (30_encoding.md R171). -/
def encode (i : Instr) : List Byte := i.opcode :: i.operand.bytes

/-- The first three bytes of a word whose bits are numbered from the least significant bit of the first byte; bits from `nbits`
up are 0. Three bytes is the longest instruction (30_encoding.md R170). -/
def tableWordBytes (nbits w : Nat) : List Byte :=
  let u := w % 2 ^ nbits
  [BitVec.ofNat 8 u, BitVec.ofNat 8 (u / 256), BitVec.ofNat 8 (u / 65536)]

/-- The instruction the decoder reads from a word numbered as the opcode table numbers it. -/
def decodeTableWord (nbits w : Nat) : Option Instr :=
  match decode (tableWordBytes nbits w) with
  | .ok (i, _) => some i
  | .error _ => none

end Sys2Proof
end

