-- ==== Sys2Proof/Config.lean ====
section
/-! DEFINITION. What is fixed for the machine: the named alternatives of the configuration record (00_scope.md R7) and the free
values, which the spec leaves open. A free value is opaque: nothing can evaluate it. The numbers of R7 that the spec prints are
in Machine/Params.lean. -/

namespace Sys2Proof

/-- `TV_SYSTEM` (00_scope.md R7). -/
inductive TvSystem where
  | ntsc | pal
  deriving DecidableEq, Repr

/-- `MAPPER` (00_scope.md R7; 21_mappers.md R122). -/
inductive MapperKind where
  | nrom | mmc1 | uxrom | axrom | unsupported
  deriving DecidableEq, Repr

/-- A nametable mirroring mode (10_state.md R44; 20_memory.md R102). -/
inductive Mirroring where
  | horizontal | vertical | oneScreenLow | oneScreenHigh | fourScreen
  deriving DecidableEq, Repr

/-- An RGB triple (50_ppu.md R380). -/
structure Rgb where
  r : Byte
  g : Byte
  b : Byte
  deriving DecidableEq, Repr, Inhabited

/-- FREE VALUE: the n-th byte nobody drives: an open-bus read, a read of a write-only PPU register, bits 4:0 of a PPUSTATUS
read, bits 7:1 of a 0x4016 read (20_memory.md R87, R88; 50_ppu.md R327, R337; 93_implementation_defined.md U1 to U4). The
counter `State.draws` makes each read a fresh one. DESIGN CHOICE of form, safe: see notes/assumptions/3.md. -/
opaque Config.freeByte : Nat → Byte

/-- FREE VALUE: `Emphasis(r, g, b, e)` for e ≠ 0 (50_ppu.md R380; 93_implementation_defined.md U6). Its one law is built into
`emphasis` of Machine/Pixel.lean. Safe: see notes/assumptions/5.md. -/
opaque Config.emphasis : Rgb → BitVec 3 → Rgb

end Sys2Proof
end

