-- ==== Sys2Proof/Machine/Memory.lean ====
section
/-! DEFINITION. Byte memories as sparse lists of (address, byte) cells in one canonical form: addresses strictly rising, no cell
equal to what an unlisted address reads as. -/

namespace Sys2Proof.Machine

/-- A byte memory: its cells, in canonical form when `Memory.wf` holds. -/
abbrev Memory := List Host.Cell

/-- What an unlisted address reads as. For the frame buffers the spec gives 0x00 (70_reset_and_hazards.md R524); for a memory
whose power-up contents are launch state it is a DESIGN CHOICE, notes/assumptions/2.md. -/
def Memory.unlisted : Byte := 0x00#8

/-- The byte at an address. -/
def Memory.read : Memory → Nat → Byte
  | [], _ => Memory.unlisted
  | (k, v) :: rest, a => if k = a then v else Memory.read rest a

/-- The memory without the cell of an address. -/
def Memory.erase : Memory → Nat → Memory
  | [], _ => []
  | (k, v) :: rest, a => if k = a then Memory.erase rest a else (k, v) :: Memory.erase rest a

/-- Put a cell before the first cell of a higher address. -/
def Memory.insert : Memory → Nat → Byte → Memory
  | [], a, v => [(a, v)]
  | (k, w) :: rest, a, v => if a < k then (a, v) :: (k, w) :: rest else (k, w) :: Memory.insert rest a v

/-- Write a byte, keeping the canonical form: writing the value an unlisted address reads as removes the cell. -/
def Memory.write (m : Memory) (a : Nat) (v : Byte) : Memory :=
  if v = Memory.unlisted then Memory.erase m a else Memory.insert (Memory.erase m a) a v

/-- All cells lie above `low`, addresses rise strictly, and no cell holds the unlisted value. -/
def Memory.wfAbove : Nat → Memory → Bool
  | _, [] => true
  | low, (k, v) :: rest => decide (low ≤ k) && decide (v ≠ Memory.unlisted) && Memory.wfAbove (k + 1) rest

/-- The canonical form. -/
def Memory.wf (m : Memory) : Bool := Memory.wfAbove 0 m

/-- Every listed address is below a size. -/
def Memory.below (size : Nat) (m : Memory) : Bool := m.all (fun c => decide (c.1 < size))

/-- A canonical memory of a given size. -/
def Memory.fits (size : Nat) (m : Memory) : Bool := Memory.wf m && Memory.below size m

/-- The canonical memory that holds a list of bytes from an address on. -/
def Memory.ofBytesFrom : Nat → List Byte → Memory
  | _, [] => []
  | a, v :: rest =>
    if v = Memory.unlisted then Memory.ofBytesFrom (a + 1) rest else (a, v) :: Memory.ofBytesFrom (a + 1) rest

/-- The canonical memory that holds a list of bytes from address 0 on. -/
def Memory.ofBytes (bs : List Byte) : Memory := Memory.ofBytesFrom 0 bs

end Sys2Proof.Machine
end

