-- ==== Sys2Proof/Machine/State.lean ====
section
/-! DEFINITION. The state of the machine as plain data: one record with the blocks' states as fields (10_state.md R20 to R48),
the reasons a step can stop, and the state after reset. -/

namespace Sys2Proof.Machine

/-- The seven stored flags (10_state.md R24, R25). -/
structure Flags where
  c : Bool
  z : Bool
  i : Bool
  d : Bool
  b : Bool
  v : Bool
  n : Bool
  deriving DecidableEq, Repr

/-- The record of an `IllegalOpcode(op, pc)` (10_state.md R30; 60_exceptions.md R498). -/
structure IllegalOpcode where
  op : Byte
  pc : Addr
  deriving DecidableEq, Repr

/-- The CPU block (10_state.md R20 to R30). -/
structure Cpu where
  a : Byte
  x : Byte
  y : Byte
  sp : Byte
  pc : Addr
  p : Flags
  countdown : Nat
  mode : AddrMode
  ea : Addr
  pageCrossed : Bool
  nmiPending : Bool
  dmaPending : Bool
  fault : Option IllegalOpcode
  deriving DecidableEq, Repr

/-- The phase of sprite evaluation (10_state.md R38). -/
inductive EvPhase where
  | scan | copy | ovfScan | done
  deriving DecidableEq, Repr

/-- The PPU block (10_state.md R31 to R40). -/
structure Ppu where
  ctrl : Byte
  mask : Byte
  vblank : Bool
  spr0Hit : Bool
  overflow : Bool
  t : BitVec 15
  v : BitVec 15
  x : BitVec 3
  w : Bool
  oamAddr : Byte
  readBuffer : Byte
  dot : Nat
  scanline : Nat
  oddFrame : Bool
  nt : Memory
  palette : Memory
  oam : Memory
  secOam : Memory
  evN : Nat
  evM : BitVec 2
  evFound : Nat
  evPhase : EvPhase
  evLatch : Byte
  evSpr0 : Bool
  lineSpr : Memory
  lineCount : Nat
  lineSpr0 : Bool
  suppressVbl : Bool
  fb : Memory
  doneFb : Memory
  frameReady : Bool
  deriving DecidableEq, Repr

/-- One pulse channel (10_state.md R41). Its `sw_target` is the function `sweepTarget` of Machine/ApuUnits.lean (51_apu.md R416). -/
structure Pulse where
  enabled : Bool
  duty : BitVec 2
  seq : Byte
  timerPeriod : BitVec 11
  timer : BitVec 11
  length : Byte
  halt : Bool
  envStart : Bool
  envDiv : BitVec 4
  envDecay : BitVec 4
  constVol : Bool
  volume : BitVec 4
  swEnabled : Bool
  swPeriod : BitVec 3
  swNegate : Bool
  swShift : BitVec 3
  swDiv : BitVec 3
  swReload : Bool
  deriving DecidableEq, Repr

/-- The APU block (10_state.md R41, R42). `fsMode` is true for the 5-step sequence. -/
structure Apu where
  p1 : Pulse
  p2 : Pulse
  fsCycle : Nat
  fsMode : Bool
  half : Bool
  deriving DecidableEq, Repr

/-- The mapper registers (10_state.md R44). -/
structure Mapper where
  mmc1Shift : BitVec 5
  mmc1Count : BitVec 3
  mmc1Control : BitVec 5
  mmc1Chr0 : BitVec 5
  mmc1Chr1 : BitVec 5
  mmc1Prg : BitVec 5
  uxromBank : BitVec 4
  axromBank : BitVec 3
  mirroring : Mirroring
  deriving DecidableEq, Repr

/-- The fields extracted from the 16-byte cartridge header (21_mappers.md R120 to R124). `persistent`, `vsUnisystem`,
`playChoice` and `reserved` are kept and have no effect (R124). -/
structure Header where
  prgUnits : Nat
  chrUnits : Nat
  prgRamUnits : Nat
  mapper : MapperKind
  mirroring : Mirroring
  tv : TvSystem
  trainer : Bool
  nes2 : Bool
  persistent : Bool
  vsUnisystem : Bool
  playChoice : Bool
  reserved : List Byte
  deriving DecidableEq, Repr

/-- The configuration record (00_scope.md R7): what `load_game` installs and no tick changes. `nromHasPrgRam` and `nes2Accept`
are the open parameters `NROM_HAS_PRG_RAM` and `NES2_POLICY = accept` (93_implementation_defined.md U7, U8). -/
structure CartConfig where
  header : Header
  prgRom : Memory
  chrRom : Memory
  ntscPalette : Memory
  nromHasPrgRam : Bool
  nes2Accept : Bool
  deriving DecidableEq, Repr

/-- `sys.phase` (55_system_tick.md R470). -/
inductive Phase where
  | empty | loaded | loadFailed | running | faulted
  deriving DecidableEq, Repr

/-- The system state (10_state.md R45). -/
structure Sys where
  master : Nat
  phase : Phase
  ctrlButtons : Byte
  ctrlShift : Byte
  ctrlStrobe : Bool
  deriving DecidableEq, Repr

/-- The whole machine (10_state.md R47). `draws` is the model's own counter of free values (notes/assumptions/3.md). -/
structure State where
  cpu : Cpu
  ppu : Ppu
  apu : Apu
  mapper : Mapper
  cfg : CartConfig
  prgRam : Memory
  chrRam : Memory
  ram : Memory
  sys : Sys
  draws : Nat
  deriving DecidableEq, Repr

/-- Why a step stops with a fault. -/
inductive Fault where
  /-- Raised by `step` alone, in phase Faulted: `tick` changes nothing and reports the recorded fault again (55_system_tick.md
  R472, 60_exceptions.md R498). Safe: the machine itself does not go on. -/
  | halted (record : Option IllegalOpcode)
  deriving DecidableEq, Repr

/-- Why a step is refused. -/
inductive Refusal where
  /-- An instruction without a meaning; no arm of `exec` answers it. Safe. -/
  | notModelled (mnemonic : String)
  /-- Raised by `step` in the phases Empty and Loaded: `tick` is refused and changes nothing (55_system_tick.md R471). Safe. -/
  | uninitializedUse (phase : Phase)
  /-- Raised by `step` in phase LoadFailed, and whenever the configured mapper is Unsupported: the machine must not run
  (21_mappers.md R122, R166; 55_system_tick.md R471). Safe. -/
  | unsupportedMapper
  deriving DecidableEq, Repr

/-- What a meaning and a step answer. -/
abbrev Result := Host.Outcome State Fault Refusal

/-- The flags after power-up: all 0 but I (70_reset_and_hazards.md R521). -/
def Flags.powerUp : Flags := ⟨false, false, true, false, false, false, false⟩

/-- Secondary OAM after power-up and reset: 32 bytes 0xFF (70_reset_and_hazards.md R524). -/
def Memory.allOnes32 : Memory := (List.range 32).map (fun a => (a, 0xFF#8))

/-- The PPU after power-up (70_reset_and_hazards.md R524), over the launch contents of the memories it keeps. -/
def Ppu.powerUp (nt palette oam lineSpr : Memory) : Ppu where
  ctrl := 0
  mask := 0
  vblank := false
  spr0Hit := false
  overflow := false
  t := 0
  v := 0
  x := 0
  w := false
  oamAddr := 0
  readBuffer := 0
  dot := 0
  scanline := 0
  oddFrame := false
  nt := nt
  palette := palette
  oam := oam
  secOam := Memory.allOnes32
  evN := 0
  evM := 0
  evFound := 0
  evPhase := .done
  evLatch := 0
  evSpr0 := false
  lineSpr := lineSpr
  lineCount := 0
  lineSpr0 := false
  suppressVbl := false
  fb := []
  doneFb := []
  frameReady := false

/-- A pulse channel after power-up: every field 0 (70_reset_and_hazards.md R525). -/
def Pulse.powerUp : Pulse :=
  ⟨false, 0, 0, 0, 0, 0, false, false, 0, 0, false, 0, false, 0, false, 0, 0, false⟩

/-- The APU after power-up (70_reset_and_hazards.md R525). -/
def Apu.powerUp : Apu := ⟨Pulse.powerUp, Pulse.powerUp, 0, false, false⟩

/-- `cart.mirroring` after load and power-up, by mapper (10_state.md R44; 21_mappers.md R164). -/
def Header.initialMirroring (h : Header) : Mirroring :=
  match h.mapper with
  | .nrom | .uxrom | .unsupported => h.mirroring
  | .mmc1 | .axrom => .oneScreenLow

/-- The mapper after load and power-up (10_state.md R44; 21_mappers.md R148). -/
def Mapper.powerUp (h : Header) : Mapper := ⟨0, 0, 0x0C#5, 0, 0, 0, 0, 0, h.initialMirroring⟩

/-- The header of the image of 70_reset_and_hazards.md R530: mapper 0, 16 KiB PRG-ROM, 8 KiB CHR-ROM, Horizontal, NTSC. -/
def Header.scenarioOne : Header where
  prgUnits := 1
  chrUnits := 1
  prgRamUnits := 0
  mapper := .nrom
  mirroring := .horizontal
  tv := .ntsc
  trainer := false
  nes2 := false
  persistent := false
  vsUnisystem := false
  playChoice := false
  reserved := [0, 0, 0, 0, 0, 0]

/-- The configuration of the image of R530: its reset vector 0xC000 at PRG-ROM offset 0x3FFC, every byte R530 leaves open 0x00
(notes/assumptions/1.md), a palette table of zeros (notes/assumptions/6.md), the open parameters at their defaults. -/
def CartConfig.scenarioOne : CartConfig where
  header := Header.scenarioOne
  prgRom := [(0x3FFD, 0xC0#8)]
  chrRom := []
  ntscPalette := []
  nromHasPrgRam := true
  nes2Accept := true

/-- The machine right after `power_up` on the image of R530 (70_reset_and_hazards.md R520 to R525, R527, R530). -/
def State.reset : State where
  cpu :=
    { a := 0, x := 0, y := 0, sp := 0xFD, pc := 0xC000, p := Flags.powerUp, countdown := 7, mode := .imp, ea := 0,
      pageCrossed := false, nmiPending := false, dmaPending := false, fault := none }
  ppu := Ppu.powerUp [] [] [] []
  apu := Apu.powerUp
  mapper := Mapper.powerUp Header.scenarioOne
  cfg := CartConfig.scenarioOne
  prgRam := []
  chrRam := []
  ram := []
  sys := { master := 0, phase := .running, ctrlButtons := 0, ctrlShift := 0, ctrlStrobe := false }
  draws := 0

end Sys2Proof.Machine
end

