-- ==== Sys2Proof/Machine/Access.lean ====
section
/-! DEFINITION. The accessors of the CPU's registers: the one way the meanings write them (10_state.md R20 to R30). -/

namespace Sys2Proof.Machine

/-- Write `A` (10_state.md R20). -/
def State.setA (s : State) (v : Byte) : State := { s with cpu := { s.cpu with a := v } }

/-- Write `X` (10_state.md R20). -/
def State.setX (s : State) (v : Byte) : State := { s with cpu := { s.cpu with x := v } }

/-- Write `Y` (10_state.md R20). -/
def State.setY (s : State) (v : Byte) : State := { s with cpu := { s.cpu with y := v } }

/-- Write `SP` (10_state.md R21). -/
def State.setSp (s : State) (v : Byte) : State := { s with cpu := { s.cpu with sp := v } }

/-- Write `PC` (10_state.md R22). -/
def State.setPc (s : State) (v : Addr) : State := { s with cpu := { s.cpu with pc := v } }

/-- Write all seven flags (10_state.md R24). -/
def State.setP (s : State) (p : Flags) : State := { s with cpu := { s.cpu with p := p } }

/-- Write `cpu.countdown` (10_state.md R27). -/
def State.setCountdown (s : State) (n : Nat) : State := { s with cpu := { s.cpu with countdown := n } }

/-- Latch what an address computation leaves: `cpu.mode`, `cpu.ea`, `cpu.page_crossed` (10_state.md R28). -/
def State.latch (s : State) (m : AddrMode) (ea : Addr) (crossed : Bool) : State :=
  { s with cpu := { s.cpu with mode := m, ea := ea, pageCrossed := crossed } }

/-- Write `cpu.nmi_pending` (10_state.md R29). -/
def State.setNmi (s : State) (b : Bool) : State := { s with cpu := { s.cpu with nmiPending := b } }

/-- Write `cpu.dma_pending` (10_state.md R29). -/
def State.setDma (s : State) (b : Bool) : State := { s with cpu := { s.cpu with dmaPending := b } }

/-- Write `cpu.fault` (10_state.md R30). -/
def State.setFault (s : State) (f : Option IllegalOpcode) : State := { s with cpu := { s.cpu with fault := f } }

/-- Write `sys.phase` (10_state.md R45). -/
def State.setPhase (s : State) (p : Phase) : State := { s with sys := { s.sys with phase := p } }

/-- Replace the PPU block. -/
def State.setPpu (s : State) (p : Ppu) : State := { s with ppu := p }

/-- Replace the APU block. -/
def State.setApu (s : State) (a : Apu) : State := { s with apu := a }

/-- Replace the mapper registers. -/
def State.setMapper (s : State) (m : Mapper) : State := { s with mapper := m }

/-- Replace the system block. -/
def State.setSys (s : State) (y : Sys) : State := { s with sys := y }

/-- Replace internal RAM (10_state.md R46). -/
def State.setRam (s : State) (m : Memory) : State := { s with ram := m }

/-- Replace PRG-RAM (10_state.md R43). -/
def State.setPrgRam (s : State) (m : Memory) : State := { s with prgRam := m }

/-- Replace CHR-RAM (10_state.md R43). -/
def State.setChrRam (s : State) (m : Memory) : State := { s with chrRam := m }

/-- Count one more free value as used (notes/assumptions/3.md). -/
def State.tickDraws (s : State) : State := { s with draws := s.draws + 1 }

end Sys2Proof.Machine
end

