-- ==== Sys2Proof/Machine/Params.lean ====
section
/-! DEFINITION. The numbers of the machine: clock ratios, raster sizes, costs and vectors (00_scope.md R7), and the APU tables
(51_apu.md R410, R411, R423). -/

namespace Sys2Proof.Machine

/-- `MASTER_PER_PPU` (00_scope.md R7; 55_system_tick.md R451). -/
def masterPerPpu : TvSystem → Nat
  | .ntsc => 4
  | .pal => 5

/-- `MASTER_PER_CPU` (00_scope.md R7; 55_system_tick.md R451). -/
def masterPerCpu : TvSystem → Nat
  | .ntsc => 12
  | .pal => 16

/-- `DOTS_PER_LINE` (00_scope.md R7; 90_conflicts.md C8). -/
def dotsPerLine : Nat := 341

/-- `LINES_PER_FRAME` (00_scope.md R7; 50_ppu.md R322). -/
def linesPerFrame : TvSystem → Nat
  | .ntsc => 262
  | .pal => 312

/-- `DMA_STALL`, in CPU ticks (00_scope.md R7; 55_system_tick.md R457). -/
def dmaStall : Nat := 513

/-- `INT_CYCLES`, in CPU ticks (00_scope.md R7; 60_exceptions.md R484). -/
def intCycles : Nat := 7

/-- `RESET_CYCLES`, in CPU ticks (00_scope.md R7; 70_reset_and_hazards.md R523). -/
def resetCycles : Nat := 7

/-- The address of the NMI vector (20_memory.md R115). -/
def nmiVector : Addr := 0xFFFA

/-- The address of the reset vector (20_memory.md R115). -/
def resetVector : Addr := 0xFFFC

/-- The address of the BRK vector (20_memory.md R115). -/
def brkVector : Addr := 0xFFFE

/-- `DUTY_PATTERN` (51_apu.md R410). -/
def dutyPattern (d : BitVec 2) : Byte :=
  match d.toNat with
  | 0 => 0x40
  | 1 => 0x60
  | 2 => 0x78
  | _ => 0x9F

/-- `LEN_TABLE` (51_apu.md R411). -/
def lengthTable : List Byte :=
  [10, 254, 20, 2, 40, 4, 80, 6, 160, 8, 60, 10, 14, 12, 26, 14,
   12, 16, 24, 18, 48, 20, 96, 22, 192, 24, 72, 26, 16, 28, 32, 30]

/-- The length-counter load value of a 5-bit index (51_apu.md R411). -/
def lengthLoad (i : BitVec 5) : Byte := lengthTable.getD i.toNat 0

/-- What a frame-sequencer count triggers (51_apu.md R423, R424). -/
inductive FrameEvent where
  | none | quarter | quarterHalf
  deriving DecidableEq, Repr

/-- The counts of the quarter-only events (51_apu.md R423): the same in both modes. -/
def quarterCounts : TvSystem → List Nat
  | .ntsc => [7457, 22371]
  | .pal => [8313, 24939]

/-- The counts of the quarter-and-half events (51_apu.md R423); the Bool is `apu.fs_mode`, true for the 5-step sequence. -/
def quarterHalfCounts : TvSystem → Bool → List Nat
  | .ntsc, false => [14913, 29829]
  | .ntsc, true => [14913, 37281]
  | .pal, false => [16627, 33253]
  | .pal, true => [16627, 41565]

/-- The count at which the sequencer wraps to 0 (51_apu.md R423). -/
def frameWrap : TvSystem → Bool → Nat
  | .ntsc, false => 29830
  | .ntsc, true => 37282
  | .pal, false => 33254
  | .pal, true => 41566

/-- The event of a count, if any (51_apu.md R423). -/
def frameEvent (tv : TvSystem) (mode : Bool) (count : Nat) : FrameEvent :=
  if count ∈ quarterCounts tv then .quarter
  else if count ∈ quarterHalfCounts tv mode then .quarterHalf
  else .none

end Sys2Proof.Machine
end

