-- ==== Sys2Proof/Machine/ApuUnits.lean ====
section
/-! DEFINITION. The APU (51_apu.md): the pulse registers, the units of a pulse channel, the frame sequencer, one APU tick, and
the output. -/

namespace Sys2Proof.Machine

/-- Which pulse channel: they differ in the sweep's negate arithmetic only (51_apu.md R400). -/
inductive Channel where
  | p1 | p2
  deriving DecidableEq, Repr

/-- Write of the duty, halt and volume register (51_apu.md R402). -/
def Pulse.writeDuty (ch : Pulse) (v : Byte) : Pulse :=
  { ch with
    duty := v.extractLsb' 6 2, halt := v.getLsbD 5, constVol := v.getLsbD 4, volume := v.extractLsb' 0 4,
    seq := dutyPattern (v.extractLsb' 6 2) }

/-- Write of the sweep register (51_apu.md R403). -/
def Pulse.writeSweep (ch : Pulse) (v : Byte) : Pulse :=
  { ch with
    swEnabled := v.getLsbD 7, swPeriod := v.extractLsb' 4 3, swNegate := v.getLsbD 3, swShift := v.extractLsb' 0 3,
    swReload := true }

/-- Write of the low timer register (51_apu.md R404). -/
def Pulse.writeTimerLow (ch : Pulse) (v : Byte) : Pulse :=
  { ch with timerPeriod := ch.timerPeriod.extractLsb' 8 3 ++ v }

/-- Write of the high timer and length register (51_apu.md R405). -/
def Pulse.writeTimerHigh (ch : Pulse) (v : Byte) : Pulse :=
  { ch with
    timerPeriod := v.extractLsb' 0 3 ++ ch.timerPeriod.extractLsb' 0 8,
    length := if ch.enabled then lengthLoad (v.extractLsb' 3 5) else ch.length,
    seq := dutyPattern ch.duty, envStart := true }

/-- Write of one of a channel's four registers (51_apu.md R402 to R405). -/
def Pulse.writeReg (ch : Pulse) (r : BitVec 2) (v : Byte) : Pulse :=
  match r.toNat with
  | 0 => ch.writeDuty v
  | 1 => ch.writeSweep v
  | 2 => ch.writeTimerLow v
  | _ => ch.writeTimerHigh v

/-- The enable bit of a channel from a status write; clearing it zeroes the length counter (51_apu.md R406). -/
def Pulse.setEnabled (ch : Pulse) (b : Bool) : Pulse :=
  { ch with enabled := b, length := if b then ch.length else 0 }

/-- `SweepTarget(ch)`, a 12-bit value; a negative target is clamped to 0 (51_apu.md R416). -/
def sweepTarget (w : Channel) (ch : Pulse) : BitVec 12 :=
  let p := ch.timerPeriod.toNat
  let c := p >>> ch.swShift.toNat
  if ch.swNegate = false then BitVec.ofNat 12 (p + c)
  else
    match w with
    | .p1 => BitVec.ofNat 12 (p - c - 1)
    | .p2 => BitVec.ofNat 12 (p - c)

/-- `Muted(ch)` (51_apu.md R417). -/
def muted (w : Channel) (ch : Pulse) : Bool :=
  decide (ch.timerPeriod.toNat < 8) || decide (0x7FF < (sweepTarget w ch).toNat)

/-- `TimerClock(ch)` (51_apu.md R412). -/
def Pulse.timerClock (ch : Pulse) : Pulse :=
  if ch.timer = 0 then { ch with timer := ch.timerPeriod, seq := ch.seq.rotateLeft 1 }
  else { ch with timer := ch.timer - 1 }

/-- The envelope step of a quarter-frame event (51_apu.md R413). -/
def Pulse.envelopeStep (ch : Pulse) : Pulse :=
  if ch.envStart then { ch with envStart := false, envDecay := 15, envDiv := ch.volume }
  else if ch.envDiv = 0 then
    if ch.envDecay ≠ 0 then { ch with envDiv := ch.volume, envDecay := ch.envDecay - 1 }
    else if ch.halt then { ch with envDiv := ch.volume, envDecay := 15 }
    else { ch with envDiv := ch.volume }
  else { ch with envDiv := ch.envDiv - 1 }

/-- The length step of a half-frame event (51_apu.md R414). -/
def Pulse.lengthStep (ch : Pulse) : Pulse :=
  if ch.halt = false ∧ ch.length ≠ 0 then { ch with length := ch.length - 1 } else ch

/-- The period commit of the sweep step (51_apu.md R415). -/
def Pulse.sweepCommit (w : Channel) (ch : Pulse) : Pulse :=
  if ch.swDiv = 0 ∧ ch.swEnabled = true ∧ ch.swShift ≠ 0 ∧ muted w ch = false then
    { ch with timerPeriod := (sweepTarget w ch).extractLsb' 0 11 }
  else ch

/-- The divider part of the sweep step (51_apu.md R415). -/
def Pulse.sweepDivide (ch : Pulse) : Pulse :=
  if ch.swDiv = 0 ∨ ch.swReload = true then { ch with swDiv := ch.swPeriod, swReload := false }
  else { ch with swDiv := ch.swDiv - 1 }

/-- The sweep step of a half-frame event: the conditional commit, then the divider (51_apu.md R415). -/
def Pulse.sweepStep (w : Channel) (ch : Pulse) : Pulse := (ch.sweepCommit w).sweepDivide

/-- A quarter-frame event (51_apu.md R424). -/
def Apu.quarterFrame (a : Apu) : Apu := { a with p1 := a.p1.envelopeStep, p2 := a.p2.envelopeStep }

/-- A half-frame event: per channel the length step, then the sweep step (51_apu.md R424). -/
def Apu.halfFrame (a : Apu) : Apu :=
  { a with p1 := a.p1.lengthStep.sweepStep .p1, p2 := a.p2.lengthStep.sweepStep .p2 }

/-- Perform a frame event; where both fall together the quarter frame runs first (51_apu.md R424). -/
def Apu.perform (a : Apu) : FrameEvent → Apu
  | .none => a
  | .quarter => a.quarterFrame
  | .quarterHalf => a.quarterFrame.halfFrame

/-- The frame sequencer step (51_apu.md R423). -/
def Apu.frameStep (tv : TvSystem) (a : Apu) : Apu :=
  let count := a.fsCycle + 1
  let a1 := { a with fsCycle := count }.perform (frameEvent tv a.fsMode count)
  if count = frameWrap tv a.fsMode then { a1 with fsCycle := 0 } else a1

/-- The timer part of an APU tick: every second call clocks both timers (51_apu.md R401, R412). -/
def Apu.timerStep (a : Apu) : Apu :=
  if a.half then { a with p1 := a.p1.timerClock, p2 := a.p2.timerClock, half := false } else { a with half := true }

/-- `ApuTick`: the frame sequencer step, then the timers (51_apu.md R401). -/
def Apu.tick (tv : TvSystem) (a : Apu) : Apu := (a.frameStep tv).timerStep

/-- `ApuTick` on the machine. -/
def State.apuTick (s : State) : State := s.setApu (s.apu.tick s.cfg.header.tv)

/-- Write of a pulse register at 0x4000-0x4007 (20_memory.md R86). -/
def Apu.writePulse (a : Apu) (w : Channel) (r : BitVec 2) (v : Byte) : Apu :=
  match w with
  | .p1 => { a with p1 := a.p1.writeReg r v }
  | .p2 => { a with p2 := a.p2.writeReg r v }

/-- Write of 0x4015 (51_apu.md R406). -/
def Apu.writeStatus (a : Apu) (v : Byte) : Apu :=
  { a with p1 := a.p1.setEnabled (v.getLsbD 0), p2 := a.p2.setEnabled (v.getLsbD 1) }

/-- Read of 0x4015 (51_apu.md R407). -/
def Apu.readStatus (a : Apu) : Byte := 0#6 ++ BitVec.ofBool (a.p2.length != 0) ++ BitVec.ofBool (a.p1.length != 0)

/-- Write of 0x4017: mode, counter reset, and in 5-step mode an immediate quarter and half frame (51_apu.md R408). -/
def Apu.writeFrameCounter (a : Apu) (v : Byte) : Apu :=
  let a1 := { a with fsMode := v.getLsbD 7, fsCycle := 0 }
  if v.getLsbD 7 then a1.perform .quarterHalf else a1

/-- `PulseOut(ch)` (51_apu.md R420). -/
def pulseOut (w : Channel) (ch : Pulse) : Nat :=
  if ch.timerPeriod.toNat < 8 ∨ ch.length = 0 ∨ ch.enabled = false ∨ 0x7FF < (sweepTarget w ch).toNat then 0
  else if ch.seq.getLsbD 7 then (if ch.constVol then ch.volume.toNat else ch.envDecay.toNat) else 0

/-- The 8-bit sample of a pulse sum `n`: `floor(255 · 95.88 · n / (8128 + 100 · n))`, in whole numbers (51_apu.md R421, R422). -/
def mixSample (n : Nat) : Nat := 255 * 9588 * n / (100 * (8128 + 100 * n))

/-- `Sample()`, a pure function of the APU (51_apu.md R421). -/
def Apu.sample (a : Apu) : Nat := mixSample (pulseOut .p1 a.p1 + pulseOut .p2 a.p2)

end Sys2Proof.Machine
end

