-- ==== Sys2Proof/Machine/Flags.lean ====
section
/-! DEFINITION. The flag computations: `SetZN`, `PackP`, `UnpackP` (00_scope.md R14), the carry and overflow of addition and
subtraction (42_alu.md R240 to R243), comparison, bit test, shifts and rotates. -/

namespace Sys2Proof.Machine

/-- `SetZN(v)`: Z is whether v is 0, N its bit 7 (00_scope.md R14). -/
def Flags.setZN (p : Flags) (v : Byte) : Flags := { p with z := v == 0, n := v.getLsbD 7 }

/-- A bit as a 0 or 1 of a given width. -/
def bit (n : Nat) (b : Bool) : BitVec n := (BitVec.ofBool b).zeroExtend n

/-- `PackP(b)`: N V 1 b D I Z C, bit 7 down to bit 0 (00_scope.md R14). -/
def Flags.pack (p : Flags) (b : Bool) : Byte :=
  BitVec.ofBool p.n ++ BitVec.ofBool p.v ++ 1#1 ++ BitVec.ofBool b ++
    BitVec.ofBool p.d ++ BitVec.ofBool p.i ++ BitVec.ofBool p.z ++ BitVec.ofBool p.c

/-- `UnpackP(v)`: N V D I Z C from bits 7 6 3 2 1 0; bits 5 and 4 are discarded and B is kept (00_scope.md R14). -/
def Flags.unpack (p : Flags) (v : Byte) : Flags :=
  { p with
    n := v.getLsbD 7, v := v.getLsbD 6, d := v.getLsbD 3, i := v.getLsbD 2, z := v.getLsbD 1, c := v.getLsbD 0 }

/-- `SetZN` on the machine's flags. -/
def State.setZN (s : State) (v : Byte) : State := s.setP (s.cpu.p.setZN v)

/-- The 9-bit sum of ADC (42_alu.md R242). -/
def sum9 (a m : Byte) (c : Bool) : BitVec 9 := a.zeroExtend 9 + m.zeroExtend 9 + bit 9 c

/-- The 8-bit result of ADC (42_alu.md R242). -/
def addResult (a m : Byte) (c : Bool) : Byte := (sum9 a m c).truncate 8

/-- The carry out of ADC: bit 8 of the sum (42_alu.md R242). -/
def addCarry (a m : Byte) (c : Bool) : Bool := (sum9 a m c).getLsbD 8

/-- The signed overflow of ADC: operands of one sign, result of the other (42_alu.md R242). -/
def addOverflow (a m : Byte) (c : Bool) : Bool := (~~~(a ^^^ m) &&& (a ^^^ addResult a m c)).getLsbD 7

/-- ADC on the machine: C, V, A, then Z and N. The decimal flag has no part in it (42_alu.md R241, R242). -/
def State.addToA (s : State) (m : Byte) : State :=
  let r := addResult s.cpu.a m s.cpu.p.c
  ((s.setP { s.cpu.p with c := addCarry s.cpu.a m s.cpu.p.c, v := addOverflow s.cpu.a m s.cpu.p.c }).setA r).setZN r

/-- SBC: exactly ADC of the complement (42_alu.md R243). -/
def State.subFromA (s : State) (m : Byte) : State := s.addToA (m ^^^ 0xFF#8)

/-- A comparison of a register with memory: C is the unsigned ≥, Z and N come from the difference (42_alu.md R247). -/
def State.compare (s : State) (r m : Byte) : State := (s.setP { s.cpu.p with c := decide (m ≤ r) }).setZN (r - m)

/-- BIT: Z from the and with A, N and V from bits 7 and 6 of memory (42_alu.md R250). -/
def State.bitTest (s : State) (m : Byte) : State :=
  s.setP { s.cpu.p with z := (s.cpu.a &&& m) == 0, n := m.getLsbD 7, v := m.getLsbD 6 }

/-- The result and the new carry of a shift or rotate, from the operand and the old carry. -/
abbrev ShiftFn := Byte → Bool → Byte × Bool

/-- ASL: bit 7 goes to C, 0 enters bit 0 (43_shift_incdec.md R262). -/
def shiftAsl : ShiftFn := fun v _ => (v <<< 1, v.getLsbD 7)

/-- LSR: bit 0 goes to C, 0 enters bit 7 (43_shift_incdec.md R263). -/
def shiftLsr : ShiftFn := fun v _ => (v >>> 1, v.getLsbD 0)

/-- ROL: the old carry enters bit 0, bit 7 goes to C (43_shift_incdec.md R264). -/
def shiftRol : ShiftFn := fun v c => ((v <<< 1) ||| bit 8 c, v.getLsbD 7)

/-- ROR: the old carry enters bit 7, bit 0 goes to C (43_shift_incdec.md R265). -/
def shiftRor : ShiftFn := fun v c => ((v >>> 1) ||| (bit 8 c <<< 7), v.getLsbD 0)

end Sys2Proof.Machine
end

