-- ==== Sys2Proof/Machine/Cartridge.lean ====
section
/-! DEFINITION. The mapper block (21_mappers.md): sizes, PRG-ROM, PRG-RAM and CHR address decoding, the mapper registers and the
nametable mirroring. -/

namespace Sys2Proof.Machine

/-- `PRG_SIZE` (21_mappers.md, introduction). -/
def CartConfig.prgSize (c : CartConfig) : Nat := 16384 * c.header.prgUnits

/-- `NB16`, the number of 16 KiB banks (21_mappers.md, introduction). -/
def CartConfig.nb16 (c : CartConfig) : Nat := c.header.prgUnits

/-- `CHR_IS_RAM` (21_mappers.md R124). -/
def CartConfig.chrIsRam (c : CartConfig) : Bool := c.header.chrUnits == 0

/-- `CHR_SIZE` (21_mappers.md, introduction). -/
def CartConfig.chrSize (c : CartConfig) : Nat := if c.chrIsRam then 8192 else 8192 * c.header.chrUnits

/-- `PRG_RAM_SIZE` (21_mappers.md R124). -/
def CartConfig.prgRamSize (c : CartConfig) : Nat := 8192 * max 1 c.header.prgRamUnits

/-- The PRG-ROM offset of a read in 0x8000-0xFFFF on NROM (21_mappers.md R131). -/
def nromPrgOffset (c : CartConfig) (a : Addr) : Nat := (a.toNat - 0x8000) % c.prgSize

/-- The PRG-ROM offset of a read in 0x8000-0xFFFF on MMC1 (21_mappers.md R143). -/
def mmc1PrgOffset (c : CartConfig) (m : Mapper) (a : Addr) : Nat :=
  let b := (m.mmc1Prg.extractLsb' 0 4).toNat
  let off :=
    match (m.mmc1Control.extractLsb' 2 2).toNat with
    | 0 | 1 => (b / 2) * 32768 + (a &&& 0x7FFF).toNat
    | 2 => (if a.toNat < 0xC000 then 0 else b) * 16384 + (a &&& 0x3FFF).toNat
    | _ => (if a.toNat < 0xC000 then b else c.nb16 - 1) * 16384 + (a &&& 0x3FFF).toNat
  off % c.prgSize

/-- The PRG-ROM offset of a read in 0x8000-0xFFFF on UxROM (21_mappers.md R157). -/
def uxromPrgOffset (c : CartConfig) (m : Mapper) (a : Addr) : Nat :=
  (if a.toNat < 0xC000 then m.uxromBank.toNat % c.nb16 else c.nb16 - 1) * 16384 + (a &&& 0x3FFF).toNat

/-- The PRG-ROM offset of a read in 0x8000-0xFFFF on AxROM (21_mappers.md R162). -/
def axromPrgOffset (c : CartConfig) (m : Mapper) (a : Addr) : Nat :=
  (m.axromBank.toNat * 32768 + (a &&& 0x7FFF).toNat) % c.prgSize

/-- The PRG-ROM offset of a CPU read in 0x8000-0xFFFF. With an Unsupported mapper no access rule exists and no step runs
(21_mappers.md R166; notes/assumptions/16.md). -/
def prgOffset (c : CartConfig) (m : Mapper) (a : Addr) : Nat :=
  match c.header.mapper with
  | .nrom => nromPrgOffset c a
  | .mmc1 => mmc1PrgOffset c m a
  | .uxrom => uxromPrgOffset c m a
  | .axrom => axromPrgOffset c m a
  | .unsupported => 0

/-- The PRG-RAM offset of a CPU access in 0x6000-0x7FFF, or none where the board has no PRG-RAM
(21_mappers.md R130, R140, R156, R161). -/
def prgRamIndex (c : CartConfig) (m : Mapper) (a : Addr) : Option Nat :=
  match c.header.mapper with
  | .nrom => if c.nromHasPrgRam then some (a &&& 0x1FFF).toNat else none
  | .mmc1 =>
    let bank := (m.mmc1Chr0.extractLsb' 2 2).toNat % (c.prgRamSize / 8192)
    some (bank * 8192 + (a &&& 0x1FFF).toNat)
  | .uxrom | .axrom | .unsupported => none

/-- The CHR offset of a PPU access in 0x0000-0x1FFF on MMC1 (21_mappers.md R145). -/
def mmc1ChrOffset (c : CartConfig) (m : Mapper) (a : BitVec 14) : Nat :=
  let off :=
    if m.mmc1Control.getLsbD 4 = false then (m.mmc1Chr0.toNat / 2) * 8192 + (a &&& 0x1FFF).toNat
    else if a.toNat < 0x1000 then m.mmc1Chr0.toNat * 4096 + (a &&& 0x0FFF).toNat
    else m.mmc1Chr1.toNat * 4096 + (a &&& 0x0FFF).toNat
  off % c.chrSize

/-- The CHR offset of a PPU access in 0x0000-0x1FFF (21_mappers.md R132, R145, R158, R163). -/
def chrOffset (c : CartConfig) (m : Mapper) (a : BitVec 14) : Nat :=
  match c.header.mapper with
  | .mmc1 => mmc1ChrOffset c m a
  | .nrom | .uxrom | .axrom | .unsupported => a.toNat % c.chrSize

/-- A CPU read of PRG-ROM space (21_mappers.md R131, R143, R157, R162). -/
def State.prgRead (s : State) (a : Addr) : Byte := s.cfg.prgRom.read (prgOffset s.cfg s.mapper a)

/-- A PPU read of CHR space (21_mappers.md R132, R145, R158, R163). -/
def State.chrRead (s : State) (a : BitVec 14) : Byte :=
  let i := chrOffset s.cfg s.mapper a
  if s.cfg.chrIsRam then s.chrRam.read i else s.cfg.chrRom.read i

/-- A PPU write of CHR space: stored when CHR is RAM, ignored when it is ROM (20_memory.md R101; 21_mappers.md R132, R145). -/
def State.chrWrite (s : State) (a : BitVec 14) (v : Byte) : State :=
  if s.cfg.chrIsRam then s.setChrRam (s.chrRam.write (chrOffset s.cfg s.mapper a) v) else s

/-- The mirroring mode MMC1's control bits 1:0 select (21_mappers.md R142, R147). -/
def mmc1Mirroring (control : BitVec 5) : Mirroring :=
  match (control.extractLsb' 0 2).toNat with
  | 0 => .oneScreenLow
  | 1 => .oneScreenHigh
  | 2 => .vertical
  | _ => .horizontal

/-- Load the five bits shifted in into the MMC1 register the address selects (21_mappers.md R141). -/
def Mapper.mmc1Load (m : Mapper) (a : Addr) (value : BitVec 5) : Mapper :=
  match (a.extractLsb' 13 2).toNat with
  | 0 => { m with mmc1Control := value }
  | 1 => { m with mmc1Chr0 := value }
  | 2 => { m with mmc1Chr1 := value }
  | _ => { m with mmc1Prg := value }

/-- A CPU write of `v` to `a` in 0x8000-0xFFFF on MMC1: the serial load register (21_mappers.md R141, R147). -/
def Mapper.mmc1Write (m : Mapper) (a : Addr) (v : Byte) : Mapper :=
  let m1 :=
    if v.getLsbD 7 then
      { m with mmc1Shift := 0, mmc1Count := 0, mmc1Control := m.mmc1Control ||| 0x0C#5 }
    else
      let shift := BitVec.ofBool (v.getLsbD 0) ++ m.mmc1Shift.extractLsb' 1 4
      let count := m.mmc1Count + 1
      if count = 5 then { m.mmc1Load a shift with mmc1Shift := 0, mmc1Count := 0 }
      else { m with mmc1Shift := shift, mmc1Count := count }
  { m1 with mirroring := mmc1Mirroring m1.mmc1Control }

/-- A CPU write of `v` to 0x8000-0xFFFF on UxROM (21_mappers.md R157). -/
def Mapper.uxromWrite (m : Mapper) (v : Byte) : Mapper := { m with uxromBank := v.extractLsb' 0 4 }

/-- A CPU write of `v` to 0x8000-0xFFFF on AxROM (21_mappers.md R162, R164). -/
def Mapper.axromWrite (m : Mapper) (v : Byte) : Mapper :=
  { m with axromBank := v.extractLsb' 0 3, mirroring := if v.getLsbD 4 then .oneScreenHigh else .oneScreenLow }

/-- A CPU write to 0x8000-0xFFFF: the mapper's register, never a ROM byte (20_memory.md R109; 21_mappers.md R131, R141, R157,
R162). -/
def State.romWrite (s : State) (a : Addr) (v : Byte) : State :=
  match s.cfg.header.mapper with
  | .nrom | .unsupported => s
  | .mmc1 => s.setMapper (s.mapper.mmc1Write a v)
  | .uxrom => s.setMapper (s.mapper.uxromWrite v)
  | .axrom => s.setMapper (s.mapper.axromWrite v)

/-- `cart.mirroring` as a function of the mapper state, evaluated at every access (20_memory.md R103; 21_mappers.md R133, R147,
R159, R164). -/
def State.mirroring (s : State) : Mirroring :=
  match s.cfg.header.mapper with
  | .nrom | .uxrom | .unsupported => s.cfg.header.mirroring
  | .mmc1 => mmc1Mirroring s.mapper.mmc1Control
  | .axrom => s.mapper.mirroring

end Sys2Proof.Machine
end

