-- ==== Sys2Proof/Machine/PpuBus.lean ====
section
/-! DEFINITION. The PPU address space (20_memory.md R100 to R104) and the eight CPU-visible PPU registers (50_ppu.md R325 to
R337), with the fields of PPUCTRL and PPUMASK (10_state.md R31, R32). -/

namespace Sys2Proof.Machine

/-- PPUCTRL bit 2, `inc32` (10_state.md R31). -/
def Ppu.inc32 (p : Ppu) : Bool := p.ctrl.getLsbD 2

/-- PPUCTRL bit 3, `spr_table` (10_state.md R31). -/
def Ppu.sprTable (p : Ppu) : Bool := p.ctrl.getLsbD 3

/-- PPUCTRL bit 4, `bg_table` (10_state.md R31). -/
def Ppu.bgTable (p : Ppu) : Bool := p.ctrl.getLsbD 4

/-- PPUCTRL bit 5, `spr_16` (10_state.md R31). -/
def Ppu.spr16 (p : Ppu) : Bool := p.ctrl.getLsbD 5

/-- PPUCTRL bit 7, `nmi_enable` (10_state.md R31). -/
def Ppu.nmiEnable (p : Ppu) : Bool := p.ctrl.getLsbD 7

/-- PPUMASK bit 0, `gray` (10_state.md R32). -/
def Ppu.gray (p : Ppu) : Bool := p.mask.getLsbD 0

/-- PPUMASK bit 1, `show_bg_left` (10_state.md R32). -/
def Ppu.showBgLeft (p : Ppu) : Bool := p.mask.getLsbD 1

/-- PPUMASK bit 2, `show_spr_left` (10_state.md R32). -/
def Ppu.showSprLeft (p : Ppu) : Bool := p.mask.getLsbD 2

/-- PPUMASK bit 3, `show_bg` (10_state.md R32). -/
def Ppu.showBg (p : Ppu) : Bool := p.mask.getLsbD 3

/-- PPUMASK bit 4, `show_spr` (10_state.md R32). -/
def Ppu.showSpr (p : Ppu) : Bool := p.mask.getLsbD 4

/-- PPUMASK bits 7:5, `emph` (10_state.md R32). -/
def Ppu.emph (p : Ppu) : BitVec 3 := p.mask.extractLsb' 5 3

/-- "Rendering enabled": the background or the sprites are shown (50_ppu.md R321). -/
def Ppu.rendering (p : Ppu) : Bool := p.showBg || p.showSpr

/-- The physical kilobyte of a logical nametable (20_memory.md R102). -/
def physicalTable (m : Mirroring) (tbl : Nat) : Nat :=
  match m with
  | .horizontal => tbl / 2
  | .vertical => tbl % 2
  | .oneScreenLow => 0
  | .oneScreenHigh => 1
  | .fourScreen => tbl

/-- `NtIndex(a)` (20_memory.md R102). -/
def ntIndex (m : Mirroring) (a : BitVec 14) : Nat :=
  physicalTable m (a.extractLsb' 10 2).toNat * 1024 + (a.extractLsb' 0 10).toNat

/-- `PalIndex(a)` (20_memory.md R104). -/
def palIndex (a : BitVec 14) : Nat :=
  let i := a &&& 0x1F#14
  if i &&& 0x13#14 = 0x10#14 then (i &&& 0x0F#14).toNat else i.toNat

/-- `PpuRead(a)` (20_memory.md R100). -/
def State.ppuRead (s : State) (a : BitVec 14) : Byte :=
  if a.toNat < 0x2000 then s.chrRead a
  else if a.toNat < 0x3F00 then s.ppu.nt.read (ntIndex s.mirroring a)
  else s.ppu.palette.read (palIndex a)

/-- `PpuWrite(a, v)` (20_memory.md R101). -/
def State.ppuWrite (s : State) (a : BitVec 14) (v : Byte) : State :=
  if a.toNat < 0x2000 then s.chrWrite a v
  else if a.toNat < 0x3F00 then s.setPpu { s.ppu with nt := s.ppu.nt.write (ntIndex s.mirroring a) v }
  else s.setPpu { s.ppu with palette := s.ppu.palette.write (palIndex a) v }

/-- A read that nothing answers: the next free value (20_memory.md R87; notes/assumptions/3.md). -/
def State.draw (s : State) : Byte × State := (Config.freeByte s.draws, s.tickDraws)

/-- `v` after a PPUDATA access: up by 1 or 32, modulo 0x8000 (50_ppu.md R335, R336). -/
def Ppu.nextV (p : Ppu) : BitVec 15 := p.v + (if p.inc32 then 32 else 1)

/-- The PPU address in `v`: its low 14 bits (50_ppu.md R335). -/
def Ppu.vAddr (p : Ppu) : BitVec 14 := p.v.extractLsb' 0 14

/-- The PPU's position is `(line, dot)` (10_state.md R36). -/
def Ppu.at (p : Ppu) (line dot : Nat) : Bool := p.scanline == line && p.dot == dot

/-- A PPUSTATUS read (50_ppu.md R327, R353, R354). Bits 4:0 are a free value. -/
def State.readStatus (s : State) : Byte × State :=
  let free := s.draw
  let value := BitVec.ofBool s.ppu.vblank ++ BitVec.ofBool s.ppu.spr0Hit ++ BitVec.ofBool s.ppu.overflow ++
    free.1.extractLsb' 0 5
  let ppu := { s.ppu with
    vblank := false, w := false, suppressVbl := if s.ppu.at 241 1 then true else s.ppu.suppressVbl }
  let s1 := free.2.setPpu ppu
  (value, if s.ppu.at 241 2 || s.ppu.at 241 3 then s1.setNmi false else s1)

/-- A PPUDATA read (50_ppu.md R335). -/
def State.readData (s : State) : Byte × State :=
  let a := s.ppu.vAddr
  if 0x3F00 ≤ a.toNat then
    (s.ppu.palette.read (palIndex a),
      s.setPpu { s.ppu with readBuffer := s.ppu.nt.read (ntIndex s.mirroring a), v := s.ppu.nextV })
  else
    (s.ppu.readBuffer, s.setPpu { s.ppu with readBuffer := s.ppuRead a, v := s.ppu.nextV })

/-- `PpuRegRead(r)` (50_ppu.md R325, R327, R330, R335, R337). -/
def State.ppuRegRead (s : State) (r : BitVec 3) : Byte × State :=
  match r.toNat with
  | 2 => s.readStatus
  | 4 => (s.ppu.oam.read s.ppu.oamAddr.toNat, s)
  | 7 => s.readData
  | _ => s.draw

/-- A PPUCTRL write (50_ppu.md R326): no NMI comes of it. -/
def Ppu.writeCtrl (p : Ppu) (v : Byte) : Ppu :=
  { p with ctrl := v, t := p.t.extractLsb' 12 3 ++ v.extractLsb' 0 2 ++ p.t.extractLsb' 0 10 }

/-- A PPUMASK write (50_ppu.md R328). -/
def Ppu.writeMask (p : Ppu) (v : Byte) : Ppu := { p with mask := v }

/-- An OAMADDR write (50_ppu.md R329). -/
def Ppu.writeOamAddr (p : Ppu) (v : Byte) : Ppu := { p with oamAddr := v }

/-- An OAMDATA write (50_ppu.md R330). -/
def Ppu.writeOamData (p : Ppu) (v : Byte) : Ppu :=
  { p with oam := p.oam.write p.oamAddr.toNat v, oamAddr := p.oamAddr + 1 }

/-- A PPUSCROLL write, first or second by `w` (50_ppu.md R331, R332). -/
def Ppu.writeScroll (p : Ppu) (v : Byte) : Ppu :=
  if p.w = false then
    { p with t := p.t.extractLsb' 5 10 ++ v.extractLsb' 3 5, x := v.extractLsb' 0 3, w := true }
  else
    { p with
      t := v.extractLsb' 0 3 ++ p.t.extractLsb' 10 2 ++ v.extractLsb' 3 5 ++ p.t.extractLsb' 0 5, w := false }

/-- A PPUADDR write, first or second by `w` (50_ppu.md R333, R334). -/
def Ppu.writeAddr (p : Ppu) (v : Byte) : Ppu :=
  if p.w = false then
    { p with t := 0#1 ++ v.extractLsb' 0 6 ++ p.t.extractLsb' 0 8, w := true }
  else
    let t := p.t.extractLsb' 8 7 ++ v
    { p with t := t, v := t, w := false }

/-- A PPUDATA write (50_ppu.md R336). -/
def State.writeData (s : State) (v : Byte) : State :=
  let s1 := s.ppuWrite s.ppu.vAddr v
  s1.setPpu { s1.ppu with v := s.ppu.nextV }

/-- `PpuRegWrite(r, val)` (50_ppu.md R325, R337). -/
def State.ppuRegWrite (s : State) (r : BitVec 3) (v : Byte) : State :=
  match r.toNat with
  | 0 => s.setPpu (s.ppu.writeCtrl v)
  | 1 => s.setPpu (s.ppu.writeMask v)
  | 2 => s
  | 3 => s.setPpu (s.ppu.writeOamAddr v)
  | 4 => s.setPpu (s.ppu.writeOamData v)
  | 5 => s.setPpu (s.ppu.writeScroll v)
  | 6 => s.setPpu (s.ppu.writeAddr v)
  | _ => s.writeData v

end Sys2Proof.Machine
end

