-- ==== Sys2Proof/Machine/Ops.lean ====
section
/-! DEFINITION. The named operations over memory and registers: the CPU bus (20_memory.md R81 to R92), the stack
(00_scope.md R13), word reads (R12), taking an interrupt (60_exceptions.md R484, R486) and returning from one (R487). -/

namespace Sys2Proof.Machine

/-- The row of the CPU address map an address falls in (20_memory.md R81). -/
inductive CpuTarget where
  | ram (index : Nat)
  | ppuReg (r : BitVec 3)
  | pulse (channel : Channel) (r : BitVec 2)
  | oamDma
  | apuStatus
  | controller
  | frameCounter
  | unmapped
  | cartRam
  | cartRom
  deriving DecidableEq, Repr

/-- The CPU address map (20_memory.md R81, R84 to R89). -/
def cpuTarget (a : Addr) : CpuTarget :=
  let n := a.toNat
  if n < 0x2000 then .ram (a &&& 0x07FF).toNat
  else if n < 0x4000 then .ppuReg (a.extractLsb' 0 3)
  else if n < 0x4004 then .pulse .p1 (a.extractLsb' 0 2)
  else if n < 0x4008 then .pulse .p2 (a.extractLsb' 0 2)
  else if n = 0x4014 then .oamDma
  else if n = 0x4015 then .apuStatus
  else if n = 0x4016 then .controller
  else if n = 0x4017 then .frameCounter
  else if n < 0x6000 then .unmapped
  else if n < 0x8000 then .cartRam
  else .cartRom

/-- A read of the controller port 0x4016 (20_memory.md R88). Bits 7:1 are a free value. -/
def State.readController (s : State) : Byte × State :=
  let shift := if s.sys.ctrlStrobe then s.sys.ctrlButtons else s.sys.ctrlShift
  let free := s.draw
  let value := free.1.extractLsb' 1 7 ++ shift.extractLsb' 0 1
  let shift' := if s.sys.ctrlStrobe then shift else (shift >>> 1) ||| 0x80#8
  (value, free.2.setSys { s.sys with ctrlShift := shift' })

/-- A write of the controller port 0x4016 (20_memory.md R88). -/
def Sys.writeController (y : Sys) (v : Byte) : Sys :=
  if v.getLsbD 0 then { y with ctrlStrobe := true, ctrlShift := y.ctrlButtons } else { y with ctrlStrobe := false }

/-- A read of cartridge space 0x6000-0x7FFF: PRG-RAM where the board has it, else a free value
(21_mappers.md R130, R140, R156, R161). -/
def State.cartRamRead (s : State) (a : Addr) : Byte × State :=
  match prgRamIndex s.cfg s.mapper a with
  | some i => (s.prgRam.read i, s)
  | none => s.draw

/-- A write of cartridge space 0x6000-0x7FFF (21_mappers.md R130, R140, R156, R161). -/
def State.cartRamWrite (s : State) (a : Addr) (v : Byte) : State :=
  match prgRamIndex s.cfg s.mapper a with
  | some i => s.setPrgRam (s.prgRam.write i v)
  | none => s

/-- `CpuRead(a)`: the value and the state after the read's side effects (20_memory.md R81, R82). -/
def cpuRead (a : Addr) (s : State) : Byte × State :=
  match cpuTarget a with
  | .ram i => (s.ram.read i, s)
  | .ppuReg r => s.ppuRegRead r
  | .pulse _ _ => s.draw
  | .oamDma => s.draw
  | .apuStatus => (s.apu.readStatus, s)
  | .controller => s.readController
  | .frameCounter => s.draw
  | .unmapped => s.draw
  | .cartRam => s.cartRamRead a
  | .cartRom => (s.prgRead a, s)

/-- One byte of the OAM DMA: read the CPU address, write OAM at `oam_addr + i` (20_memory.md R92). -/
def dmaByte (page : Byte) (s : State) (i : Nat) : State :=
  let r := cpuRead (page ++ BitVec.ofNat 8 i) s
  r.2.setPpu { r.2.ppu with oam := r.2.ppu.oam.write (r.2.ppu.oamAddr + BitVec.ofNat 8 i).toNat r.1 }

/-- The OAM DMA: 256 ordinary reads in ascending order into OAM, then the stall is left pending (20_memory.md R92). -/
def oamDma (page : Byte) (s : State) : State := ((List.range 256).foldl (dmaByte page) s).setDma true

/-- `CpuWrite(a, v)` (20_memory.md R81, R83). -/
def cpuWrite (a : Addr) (v : Byte) (s : State) : State :=
  match cpuTarget a with
  | .ram i => s.setRam (s.ram.write i v)
  | .ppuReg r => s.ppuRegWrite r v
  | .pulse w r => s.setApu (s.apu.writePulse w r v)
  | .oamDma => oamDma v s
  | .apuStatus => s.setApu (s.apu.writeStatus v)
  | .controller => s.setSys (s.sys.writeController v)
  | .frameCounter => s.setApu (s.apu.writeFrameCounter v)
  | .unmapped => s
  | .cartRam => s.cartRamWrite a v
  | .cartRom => s.romWrite a v

/-- `MemRead(a, 2)`: the low byte, then the high byte at the next address (00_scope.md R12). -/
def cpuReadWord (a : Addr) (s : State) : Addr × State :=
  let lo := cpuRead a s
  let hi := cpuRead (a + 1) lo.2
  (hi.1 ++ lo.1, hi.2)

/-- The address of the stack byte `SP` points at (00_scope.md R13). -/
def stackAddr (sp : Byte) : Addr := 0x01#8 ++ sp

/-- `Push(v)`: write, then decrement (00_scope.md R13; 41_transfer_stack.md R220). -/
def push (v : Byte) (s : State) : State :=
  let s1 := cpuWrite (stackAddr s.cpu.sp) v s
  s1.setSp (s1.cpu.sp - 1)

/-- `Pull()`: increment, then read (00_scope.md R13; 41_transfer_stack.md R220). -/
def pull (s : State) : Byte × State :=
  let s1 := s.setSp (s.cpu.sp + 1)
  cpuRead (stackAddr s1.cpu.sp) s1

/-- Push an address, high byte first (20_memory.md R105; 44_control_flow.md R283). -/
def pushAddr (a : Addr) (s : State) : State := push (a.extractLsb' 0 8) (push (a.extractLsb' 8 8) s)

/-- Pull an address, low byte first (44_control_flow.md R284, R295). -/
def pullAddr (s : State) : Addr × State :=
  let lo := pull s
  let hi := pull lo.2
  (hi.1 ++ lo.1, hi.2)

/-- TAKE AN INTERRUPT, for NMI and BRK alike (60_exceptions.md R484, R486, R489; 44_control_flow.md R294): push the return
address, set the stored B, push the flags with bit 4 = B, set I, and load `PC` from the vector. -/
def takeInterrupt (ret : Addr) (brk : Bool) (vector : Addr) (s : State) : State :=
  let s1 := pushAddr ret s
  let s2 := s1.setP { s1.cpu.p with b := brk }
  let s3 := push (s2.cpu.p.pack brk) s2
  let s4 := s3.setP { s3.cpu.p with i := true }
  let target := cpuReadWord vector s4
  target.2.setPc target.1

/-- RETURN FROM AN INTERRUPT (60_exceptions.md R487; 44_control_flow.md R295): pull the flags, then `PC`, with no + 1. -/
def returnFromInterrupt (s : State) : State :=
  let flags := pull s
  let s1 := flags.2.setP (flags.2.cpu.p.unpack flags.1)
  let target := pullAddr s1
  target.2.setPc target.1

/-- NMI entry (60_exceptions.md R484): the interrupt with `PC` as return address and bit 4 = 0; the request is cleared and the
cost is `INT_CYCLES`. -/
def nmiEntry (s : State) : State :=
  ((takeInterrupt s.cpu.pc false nmiVector s).setNmi false).setCountdown intCycles

/-- The DMA stall (55_system_tick.md R455, R457). -/
def dmaStallEntry (s : State) : State := (s.setDma false).setCountdown dmaStall

/-- Record an illegal opcode: the machine is faulted and nothing else changes (55_system_tick.md R459; 60_exceptions.md R498). -/
def raiseIllegal (op : Byte) (s : State) : State := (s.setFault (some ⟨op, s.cpu.pc⟩)).setPhase .faulted

/-- The common epilogue of an instruction that is no control transfer: `PC` moves past it and its cost is set
(10_state.md R22; 55_system_tick.md R455). -/
def retire (length cost : Nat) (s : State) : State :=
  (s.setPc (s.cpu.pc + BitVec.ofNat 16 length)).setCountdown cost

end Sys2Proof.Machine
end

