-- ==== Sys2Proof/Machine/Operands.lean ====
section
/-! DEFINITION. The 13 addressing modes: the effective-address computation (30_encoding.md R182 to R194), the operand read and
the result write (40_load_store.md R201, 43_shift_incdec.md R261), and the shapes of instruction every family is made of. -/

namespace Sys2Proof.Machine

/-- Two addresses lie in different pages: their high bytes differ (00_scope.md R17). -/
def pageDiffers (a b : Addr) : Bool := a.extractLsb' 8 8 != b.extractLsb' 8 8

/-- The address of the high byte of an indirect JMP's pointer: in the page of the low byte (30_encoding.md R191). -/
def pointerHighAddr (ptr : Addr) : Addr := (ptr &&& 0xFF00) ||| ((ptr + 1) &&& 0x00FF)

/-- The pointer at a zero-page address: both bytes come from the zero page (30_encoding.md R192, R193). -/
def zeroPagePointer (z : Byte) (s : State) : Addr × State :=
  let lo := cpuRead (z.zeroExtend 16) s
  let hi := cpuRead ((z + 1).zeroExtend 16) lo.2
  (hi.1 ++ lo.1, hi.2)

/-- The address computation: it may read pointer bytes, and it latches `cpu.mode`, `cpu.ea` and `cpu.page_crossed`
(30_encoding.md R182 to R194). Implied and Accumulator leave `cpu.ea` as it was (notes/assumptions/4.md). -/
def address (o : Operand) (s : State) : State :=
  match o with
  | .imp => s.latch .imp s.cpu.ea false
  | .acc => s.latch .acc s.cpu.ea false
  | .imm _ => s.latch .imm (s.cpu.pc + 1) false
  | .zp z => s.latch .zp (z.zeroExtend 16) false
  | .zpx z => s.latch .zpx ((z + s.cpu.x).zeroExtend 16) false
  | .zpy z => s.latch .zpy ((z + s.cpu.y).zeroExtend 16) false
  | .abs a => s.latch .abs a false
  | .absx a =>
    let ea := a + s.cpu.x.zeroExtend 16
    s.latch .absx ea (pageDiffers a ea)
  | .absy a =>
    let ea := a + s.cpu.y.zeroExtend 16
    s.latch .absy ea (pageDiffers a ea)
  | .ind a =>
    let lo := cpuRead a s
    let hi := cpuRead (pointerHighAddr a) lo.2
    hi.2.latch .ind (hi.1 ++ lo.1) false
  | .indx z =>
    let p := zeroPagePointer (z + s.cpu.x) s
    p.2.latch .indx p.1 false
  | .indy z =>
    let p := zeroPagePointer z s
    let ea := p.1 + p.2.cpu.y.zeroExtend 16
    p.2.latch .indy ea (pageDiffers p.1 ea)
  | .rel d =>
    let next := s.cpu.pc + 2
    let ea := next + BitVec.ofInt 16 d
    s.latch .rel ea (pageDiffers next ea)

/-- The operand's value after the address computation: the immediate byte (already read with the instruction's own bytes, R184),
`A` in Accumulator mode, else exactly one data read at `cpu.ea` (40_load_store.md R201). -/
def operandRead (o : Operand) (s : State) : Byte × State :=
  let s1 := address o s
  match o with
  | .imm v => (v, s1)
  | .acc => (s1.cpu.a, s1)
  | .imp | .zp _ | .zpx _ | .zpy _ | .abs _ | .absx _ | .absy _ | .ind _ | .indx _ | .indy _ | .rel _ =>
    cpuRead s1.cpu.ea s1

/-- Where a shift or an INC or DEC puts its result: `A` in Accumulator mode, else one data write at `cpu.ea`
(43_shift_incdec.md R261). -/
def operandWrite (o : Operand) (v : Byte) (s : State) : State :=
  match o with
  | .acc => s.setA v
  | .imp | .imm _ | .zp _ | .zpx _ | .zpy _ | .abs _ | .absx _ | .absy _ | .ind _ | .indx _ | .indy _ | .rel _ =>
    cpuWrite s.cpu.ea v s

/-- The extra cycle of a row marked `+p`: 1 when a page was crossed (30_encoding.md R195). -/
def pagePenalty (plusP : Bool) (s : State) : Nat := if plusP && s.cpu.pageCrossed then 1 else 0

/-- An instruction that reads its operand and then changes registers and flags (files 40 and 42). `plusP` says whether the row is
marked `+p`. -/
def readInstr (o : Operand) (base : Nat) (plusP : Bool) (f : State → Byte → State) (s : State) : Result :=
  let r := operandRead o s
  .next (retire o.length (base + pagePenalty plusP r.2) (f r.2 r.1))

/-- A store: one data write of a register at `cpu.ea`, at a cost that never depends on a page crossing
(40_load_store.md R201, R205). -/
def storeInstr (o : Operand) (base : Nat) (reg : Cpu → Byte) (s : State) : Result :=
  let s1 := address o s
  .next (retire o.length base (cpuWrite s1.cpu.ea (reg s1.cpu) s1))

/-- A shift or rotate: get, set the carry, put, set Z and N (43_shift_incdec.md R261 to R265). -/
def shiftInstr (o : Operand) (base : Nat) (f : ShiftFn) (s : State) : Result :=
  let r := operandRead o s
  let out := f r.1 r.2.cpu.p.c
  let s2 := r.2.setP { r.2.cpu.p with c := out.2 }
  .next (retire o.length base ((operandWrite o out.1 s2).setZN out.1))

/-- INC and DEC: read, write back, set Z and N (43_shift_incdec.md R261, R266, R267). -/
def modifyInstr (o : Operand) (base : Nat) (f : Byte → Byte) (s : State) : Result :=
  let r := operandRead o s
  let v := f r.1
  .next (retire o.length base ((operandWrite o v r.2).setZN v))

/-- An Implied instruction that changes registers, flags or the stack and moves on (files 41, 43, 45). -/
def impliedInstr (base : Nat) (f : State → State) (s : State) : Result := .next (retire 1 base (f (address .imp s)))

/-- A conditional branch (44_control_flow.md R285). -/
def branchInstr (d : Int) (cond : Flags → Bool) (s : State) : Result :=
  let s1 := address (.rel d) s
  let next := s1.cpu.pc + 2
  if cond s1.cpu.p then
    .next ((s1.setPc s1.cpu.ea).setCountdown (3 + if pageDiffers next s1.cpu.ea then 1 else 0))
  else .next ((s1.setPc next).setCountdown 2)

end Sys2Proof.Machine
end

