-- ==== Sys2Proof/Machine/Alu.lean ====
section
/-! DEFINITION. Arithmetic, logic, comparison and bit test (42_alu.md R240 to R250). One definition per row of the opcode table. -/

namespace Sys2Proof.Machine

/-- AND once its operand is read (42_alu.md R244). -/
def andA (s : State) (m : Byte) : State := (s.setA (s.cpu.a &&& m)).setZN (s.cpu.a &&& m)

/-- ORA once its operand is read (42_alu.md R245). -/
def orA (s : State) (m : Byte) : State := (s.setA (s.cpu.a ||| m)).setZN (s.cpu.a ||| m)

/-- EOR once its operand is read (42_alu.md R246). -/
def eorA (s : State) (m : Byte) : State := (s.setA (s.cpu.a ^^^ m)).setZN (s.cpu.a ^^^ m)

/-- CMP once its operand is read (42_alu.md R247). -/
def compareA (s : State) (m : Byte) : State := s.compare s.cpu.a m

/-- CPX once its operand is read (42_alu.md R248). -/
def compareX (s : State) (m : Byte) : State := s.compare s.cpu.x m

/-- CPY once its operand is read (42_alu.md R249). -/
def compareY (s : State) (m : Byte) : State := s.compare s.cpu.y m

/-- ADC, Immediate, opcode 69, 2 cycles (42_alu.md R242). -/
def execAdcImm (v : Byte) (s : State) : Result := readInstr (.imm v) 2 false State.addToA s

/-- ADC, Zeropage, opcode 65, 3 cycles (42_alu.md R242). -/
def execAdcZp (z : Byte) (s : State) : Result := readInstr (.zp z) 3 false State.addToA s

/-- ADC, Zeropage-X, opcode 75, 4 cycles (42_alu.md R242). -/
def execAdcZpX (z : Byte) (s : State) : Result := readInstr (.zpx z) 4 false State.addToA s

/-- ADC, Absolute, opcode 6D, 4 cycles (42_alu.md R242). -/
def execAdcAbs (a : Addr) (s : State) : Result := readInstr (.abs a) 4 false State.addToA s

/-- ADC, Absolute-X, opcode 7D, 4+p cycles (42_alu.md R242). -/
def execAdcAbsX (a : Addr) (s : State) : Result := readInstr (.absx a) 4 true State.addToA s

/-- ADC, Absolute-Y, opcode 79, 4+p cycles (42_alu.md R242). -/
def execAdcAbsY (a : Addr) (s : State) : Result := readInstr (.absy a) 4 true State.addToA s

/-- ADC, (Indirect,X), opcode 61, 6 cycles (42_alu.md R242). -/
def execAdcIndX (z : Byte) (s : State) : Result := readInstr (.indx z) 6 false State.addToA s

/-- ADC, (Indirect),Y, opcode 71, 5+p cycles (42_alu.md R242). -/
def execAdcIndY (z : Byte) (s : State) : Result := readInstr (.indy z) 5 true State.addToA s

/-- SBC, Immediate, opcode E9, 2 cycles (42_alu.md R243). -/
def execSbcImm (v : Byte) (s : State) : Result := readInstr (.imm v) 2 false State.subFromA s

/-- SBC, Zeropage, opcode E5, 3 cycles (42_alu.md R243). -/
def execSbcZp (z : Byte) (s : State) : Result := readInstr (.zp z) 3 false State.subFromA s

/-- SBC, Zeropage-X, opcode F5, 4 cycles (42_alu.md R243). -/
def execSbcZpX (z : Byte) (s : State) : Result := readInstr (.zpx z) 4 false State.subFromA s

/-- SBC, Absolute, opcode ED, 4 cycles (42_alu.md R243). -/
def execSbcAbs (a : Addr) (s : State) : Result := readInstr (.abs a) 4 false State.subFromA s

/-- SBC, Absolute-X, opcode FD, 4+p cycles (42_alu.md R243). -/
def execSbcAbsX (a : Addr) (s : State) : Result := readInstr (.absx a) 4 true State.subFromA s

/-- SBC, Absolute-Y, opcode F9, 4+p cycles (42_alu.md R243). -/
def execSbcAbsY (a : Addr) (s : State) : Result := readInstr (.absy a) 4 true State.subFromA s

/-- SBC, (Indirect,X), opcode E1, 6 cycles (42_alu.md R243). -/
def execSbcIndX (z : Byte) (s : State) : Result := readInstr (.indx z) 6 false State.subFromA s

/-- SBC, (Indirect),Y, opcode F1, 5+p cycles (42_alu.md R243). -/
def execSbcIndY (z : Byte) (s : State) : Result := readInstr (.indy z) 5 true State.subFromA s

/-- AND, Immediate, opcode 29, 2 cycles (42_alu.md R244). -/
def execAndImm (v : Byte) (s : State) : Result := readInstr (.imm v) 2 false andA s

/-- AND, Zeropage, opcode 25, 3 cycles (42_alu.md R244). -/
def execAndZp (z : Byte) (s : State) : Result := readInstr (.zp z) 3 false andA s

/-- AND, Zeropage-X, opcode 35, 4 cycles (42_alu.md R244). -/
def execAndZpX (z : Byte) (s : State) : Result := readInstr (.zpx z) 4 false andA s

/-- AND, Absolute, opcode 2D, 4 cycles (42_alu.md R244). -/
def execAndAbs (a : Addr) (s : State) : Result := readInstr (.abs a) 4 false andA s

/-- AND, Absolute-X, opcode 3D, 4+p cycles (42_alu.md R244). -/
def execAndAbsX (a : Addr) (s : State) : Result := readInstr (.absx a) 4 true andA s

/-- AND, Absolute-Y, opcode 39, 4+p cycles (42_alu.md R244). -/
def execAndAbsY (a : Addr) (s : State) : Result := readInstr (.absy a) 4 true andA s

/-- AND, (Indirect,X), opcode 21, 6 cycles (42_alu.md R244). -/
def execAndIndX (z : Byte) (s : State) : Result := readInstr (.indx z) 6 false andA s

/-- AND, (Indirect),Y, opcode 31, 5+p cycles (42_alu.md R244). -/
def execAndIndY (z : Byte) (s : State) : Result := readInstr (.indy z) 5 true andA s

/-- ORA, Immediate, opcode 09, 2 cycles (42_alu.md R245). -/
def execOraImm (v : Byte) (s : State) : Result := readInstr (.imm v) 2 false orA s

/-- ORA, Zeropage, opcode 05, 3 cycles (42_alu.md R245). -/
def execOraZp (z : Byte) (s : State) : Result := readInstr (.zp z) 3 false orA s

/-- ORA, Zeropage-X, opcode 15, 4 cycles (42_alu.md R245). -/
def execOraZpX (z : Byte) (s : State) : Result := readInstr (.zpx z) 4 false orA s

/-- ORA, Absolute, opcode 0D, 4 cycles (42_alu.md R245). -/
def execOraAbs (a : Addr) (s : State) : Result := readInstr (.abs a) 4 false orA s

/-- ORA, Absolute-X, opcode 1D, 4+p cycles (42_alu.md R245). -/
def execOraAbsX (a : Addr) (s : State) : Result := readInstr (.absx a) 4 true orA s

/-- ORA, Absolute-Y, opcode 19, 4+p cycles (42_alu.md R245). -/
def execOraAbsY (a : Addr) (s : State) : Result := readInstr (.absy a) 4 true orA s

/-- ORA, (Indirect,X), opcode 01, 6 cycles (42_alu.md R245). -/
def execOraIndX (z : Byte) (s : State) : Result := readInstr (.indx z) 6 false orA s

/-- ORA, (Indirect),Y, opcode 11, 5+p cycles (42_alu.md R245). -/
def execOraIndY (z : Byte) (s : State) : Result := readInstr (.indy z) 5 true orA s

/-- EOR, Immediate, opcode 49, 2 cycles (42_alu.md R246). -/
def execEorImm (v : Byte) (s : State) : Result := readInstr (.imm v) 2 false eorA s

/-- EOR, Zeropage, opcode 45, 3 cycles (42_alu.md R246). -/
def execEorZp (z : Byte) (s : State) : Result := readInstr (.zp z) 3 false eorA s

/-- EOR, Zeropage-X, opcode 55, 4 cycles (42_alu.md R246). -/
def execEorZpX (z : Byte) (s : State) : Result := readInstr (.zpx z) 4 false eorA s

/-- EOR, Absolute, opcode 4D, 4 cycles (42_alu.md R246). -/
def execEorAbs (a : Addr) (s : State) : Result := readInstr (.abs a) 4 false eorA s

/-- EOR, Absolute-X, opcode 5D, 4+p cycles (42_alu.md R246). -/
def execEorAbsX (a : Addr) (s : State) : Result := readInstr (.absx a) 4 true eorA s

/-- EOR, Absolute-Y, opcode 59, 4+p cycles (42_alu.md R246). -/
def execEorAbsY (a : Addr) (s : State) : Result := readInstr (.absy a) 4 true eorA s

/-- EOR, (Indirect,X), opcode 41, 6 cycles (42_alu.md R246). -/
def execEorIndX (z : Byte) (s : State) : Result := readInstr (.indx z) 6 false eorA s

/-- EOR, (Indirect),Y, opcode 51, 5+p cycles (42_alu.md R246). -/
def execEorIndY (z : Byte) (s : State) : Result := readInstr (.indy z) 5 true eorA s

/-- CMP, Immediate, opcode C9, 2 cycles (42_alu.md R247). -/
def execCmpImm (v : Byte) (s : State) : Result := readInstr (.imm v) 2 false compareA s

/-- CMP, Zeropage, opcode C5, 3 cycles (42_alu.md R247). -/
def execCmpZp (z : Byte) (s : State) : Result := readInstr (.zp z) 3 false compareA s

/-- CMP, Zeropage-X, opcode D5, 4 cycles (42_alu.md R247). -/
def execCmpZpX (z : Byte) (s : State) : Result := readInstr (.zpx z) 4 false compareA s

/-- CMP, Absolute, opcode CD, 4 cycles (42_alu.md R247). -/
def execCmpAbs (a : Addr) (s : State) : Result := readInstr (.abs a) 4 false compareA s

/-- CMP, Absolute-X, opcode DD, 4+p cycles (42_alu.md R247). -/
def execCmpAbsX (a : Addr) (s : State) : Result := readInstr (.absx a) 4 true compareA s

/-- CMP, Absolute-Y, opcode D9, 4+p cycles (42_alu.md R247). -/
def execCmpAbsY (a : Addr) (s : State) : Result := readInstr (.absy a) 4 true compareA s

/-- CMP, (Indirect,X), opcode C1, 6 cycles (42_alu.md R247). -/
def execCmpIndX (z : Byte) (s : State) : Result := readInstr (.indx z) 6 false compareA s

/-- CMP, (Indirect),Y, opcode D1, 5+p cycles (42_alu.md R247). -/
def execCmpIndY (z : Byte) (s : State) : Result := readInstr (.indy z) 5 true compareA s

/-- CPX, Immediate, opcode E0, 2 cycles (42_alu.md R248). -/
def execCpxImm (v : Byte) (s : State) : Result := readInstr (.imm v) 2 false compareX s

/-- CPX, Zeropage, opcode E4, 3 cycles (42_alu.md R248). -/
def execCpxZp (z : Byte) (s : State) : Result := readInstr (.zp z) 3 false compareX s

/-- CPX, Absolute, opcode EC, 4 cycles (42_alu.md R248). -/
def execCpxAbs (a : Addr) (s : State) : Result := readInstr (.abs a) 4 false compareX s

/-- CPY, Immediate, opcode C0, 2 cycles (42_alu.md R249). -/
def execCpyImm (v : Byte) (s : State) : Result := readInstr (.imm v) 2 false compareY s

/-- CPY, Zeropage, opcode C4, 3 cycles (42_alu.md R249). -/
def execCpyZp (z : Byte) (s : State) : Result := readInstr (.zp z) 3 false compareY s

/-- CPY, Absolute, opcode CC, 4 cycles (42_alu.md R249). -/
def execCpyAbs (a : Addr) (s : State) : Result := readInstr (.abs a) 4 false compareY s

/-- BIT, Zeropage, opcode 24, 3 cycles (42_alu.md R250). -/
def execBitZp (z : Byte) (s : State) : Result := readInstr (.zp z) 3 false State.bitTest s

/-- BIT, Absolute, opcode 2C, 4 cycles (42_alu.md R250). -/
def execBitAbs (a : Addr) (s : State) : Result := readInstr (.abs a) 4 false State.bitTest s

end Sys2Proof.Machine
end

