-- ==== Sys2Proof/Machine/ControlFlow.lean ====
section
/-! DEFINITION. Jumps, subroutines, branches, BRK and RTI (44_control_flow.md R280 to R295). -/

namespace Sys2Proof.Machine

/-- JMP, Absolute, opcode 4C, 3 cycles (44_control_flow.md R282). -/
def execJmpAbs (a : Addr) (s : State) : Result :=
  let s1 := address (.abs a) s
  .next ((s1.setPc s1.cpu.ea).setCountdown 3)

/-- JMP, Indirect, opcode 6C, 5 cycles (44_control_flow.md R282). -/
def execJmpInd (a : Addr) (s : State) : Result :=
  let s1 := address (.ind a) s
  .next ((s1.setPc s1.cpu.ea).setCountdown 5)

/-- JSR, Absolute, opcode 20, 6 cycles (44_control_flow.md R283). -/
def execJsrAbs (a : Addr) (s : State) : Result :=
  let s1 := address (.abs a) s
  .next (((pushAddr (s1.cpu.pc + 2) s1).setPc s1.cpu.ea).setCountdown 6)

/-- RTS, Implied, opcode 60, 6 cycles (44_control_flow.md R284). -/
def execRts (s : State) : Result :=
  let t := pullAddr (address .imp s)
  .next ((t.2.setPc (t.1 + 1)).setCountdown 6)

/-- BPL, Relative, opcode 10, 2 cycles (44_control_flow.md R286). -/
def execBpl (d : Int) (s : State) : Result := branchInstr d (fun p => !p.n) s

/-- BMI, Relative, opcode 30, 2 cycles (44_control_flow.md R287). -/
def execBmi (d : Int) (s : State) : Result := branchInstr d (fun p => p.n) s

/-- BVC, Relative, opcode 50, 2 cycles (44_control_flow.md R288). -/
def execBvc (d : Int) (s : State) : Result := branchInstr d (fun p => !p.v) s

/-- BVS, Relative, opcode 70, 2 cycles (44_control_flow.md R289). -/
def execBvs (d : Int) (s : State) : Result := branchInstr d (fun p => p.v) s

/-- BCC, Relative, opcode 90, 2 cycles (44_control_flow.md R290). -/
def execBcc (d : Int) (s : State) : Result := branchInstr d (fun p => !p.c) s

/-- BCS, Relative, opcode B0, 2 cycles (44_control_flow.md R291). -/
def execBcs (d : Int) (s : State) : Result := branchInstr d (fun p => p.c) s

/-- BNE, Relative, opcode D0, 2 cycles (44_control_flow.md R292). -/
def execBne (d : Int) (s : State) : Result := branchInstr d (fun p => !p.z) s

/-- BEQ, Relative, opcode F0, 2 cycles (44_control_flow.md R293). -/
def execBeq (d : Int) (s : State) : Result := branchInstr d (fun p => p.z) s

/-- BRK, Implied, opcode 00, 7 cycles (44_control_flow.md R294). -/
def execBrk (s : State) : Result :=
  let s1 := address .imp s
  .next ((takeInterrupt (s1.cpu.pc + 2) true brkVector s1).setCountdown 7)

/-- RTI, Implied, opcode 40, 6 cycles (44_control_flow.md R295). -/
def execRti (s : State) : Result :=
  .next ((returnFromInterrupt (address .imp s)).setCountdown 6)

end Sys2Proof.Machine
end

