-- ==== Sys2Proof/Machine/FlagsNop.lean ====
section
/-! DEFINITION. The flag instructions and NOP (45_flags_nop.md R310 to R318). -/

namespace Sys2Proof.Machine

/-- CLC, Implied, opcode 18, 2 cycles (45_flags_nop.md R311). -/
def execClc (s : State) : Result := impliedInstr 2 (fun s => s.setP { s.cpu.p with c := false }) s

/-- SEC, Implied, opcode 38, 2 cycles (45_flags_nop.md R312). -/
def execSec (s : State) : Result := impliedInstr 2 (fun s => s.setP { s.cpu.p with c := true }) s

/-- CLI, Implied, opcode 58, 2 cycles (45_flags_nop.md R313). -/
def execCli (s : State) : Result := impliedInstr 2 (fun s => s.setP { s.cpu.p with i := false }) s

/-- SEI, Implied, opcode 78, 2 cycles (45_flags_nop.md R314). -/
def execSei (s : State) : Result := impliedInstr 2 (fun s => s.setP { s.cpu.p with i := true }) s

/-- CLV, Implied, opcode B8, 2 cycles (45_flags_nop.md R315). -/
def execClv (s : State) : Result := impliedInstr 2 (fun s => s.setP { s.cpu.p with v := false }) s

/-- CLD, Implied, opcode D8, 2 cycles (45_flags_nop.md R316). -/
def execCld (s : State) : Result := impliedInstr 2 (fun s => s.setP { s.cpu.p with d := false }) s

/-- SED, Implied, opcode F8, 2 cycles (45_flags_nop.md R317). -/
def execSed (s : State) : Result := impliedInstr 2 (fun s => s.setP { s.cpu.p with d := true }) s

/-- NOP, Implied, opcode EA, 2 cycles (45_flags_nop.md R318). -/
def execNop (s : State) : Result := impliedInstr 2 (fun s => s) s

end Sys2Proof.Machine
end

