-- ==== Sys2Proof/Machine/LoadStore.lean ====
section
/-! DEFINITION. The loads and stores (40_load_store.md R200 to R207): LDA, LDX, LDY, STA, STX, STY. One definition per row of the opcode table. -/

namespace Sys2Proof.Machine

/-- The effect of LDA once its operand is read (40_load_store.md R202). -/
def loadA (s : State) (v : Byte) : State := (s.setA v).setZN v

/-- The effect of LDX once its operand is read (40_load_store.md R203). -/
def loadX (s : State) (v : Byte) : State := (s.setX v).setZN v

/-- The effect of LDY once its operand is read (40_load_store.md R204). -/
def loadY (s : State) (v : Byte) : State := (s.setY v).setZN v

/-- LDA, Immediate, opcode A9, 2 cycles (40_load_store.md R202). -/
def execLdaImm (v : Byte) (s : State) : Result := readInstr (.imm v) 2 false loadA s

/-- LDA, Zeropage, opcode A5, 3 cycles (40_load_store.md R202). -/
def execLdaZp (z : Byte) (s : State) : Result := readInstr (.zp z) 3 false loadA s

/-- LDA, Zeropage-X, opcode B5, 4 cycles (40_load_store.md R202). -/
def execLdaZpX (z : Byte) (s : State) : Result := readInstr (.zpx z) 4 false loadA s

/-- LDA, Absolute, opcode AD, 4 cycles (40_load_store.md R202). -/
def execLdaAbs (a : Addr) (s : State) : Result := readInstr (.abs a) 4 false loadA s

/-- LDA, Absolute-X, opcode BD, 4+p cycles (40_load_store.md R202). -/
def execLdaAbsX (a : Addr) (s : State) : Result := readInstr (.absx a) 4 true loadA s

/-- LDA, Absolute-Y, opcode B9, 4+p cycles (40_load_store.md R202). -/
def execLdaAbsY (a : Addr) (s : State) : Result := readInstr (.absy a) 4 true loadA s

/-- LDA, (Indirect,X), opcode A1, 6 cycles (40_load_store.md R202). -/
def execLdaIndX (z : Byte) (s : State) : Result := readInstr (.indx z) 6 false loadA s

/-- LDA, (Indirect),Y, opcode B1, 5+p cycles (40_load_store.md R202). -/
def execLdaIndY (z : Byte) (s : State) : Result := readInstr (.indy z) 5 true loadA s

/-- LDX, Immediate, opcode A2, 2 cycles (40_load_store.md R203). -/
def execLdxImm (v : Byte) (s : State) : Result := readInstr (.imm v) 2 false loadX s

/-- LDX, Zeropage, opcode A6, 3 cycles (40_load_store.md R203). -/
def execLdxZp (z : Byte) (s : State) : Result := readInstr (.zp z) 3 false loadX s

/-- LDX, Zeropage-Y, opcode B6, 4 cycles (40_load_store.md R203). -/
def execLdxZpY (z : Byte) (s : State) : Result := readInstr (.zpy z) 4 false loadX s

/-- LDX, Absolute, opcode AE, 4 cycles (40_load_store.md R203). -/
def execLdxAbs (a : Addr) (s : State) : Result := readInstr (.abs a) 4 false loadX s

/-- LDX, Absolute-Y, opcode BE, 4+p cycles (40_load_store.md R203). -/
def execLdxAbsY (a : Addr) (s : State) : Result := readInstr (.absy a) 4 true loadX s

/-- LDY, Immediate, opcode A0, 2 cycles (40_load_store.md R204). -/
def execLdyImm (v : Byte) (s : State) : Result := readInstr (.imm v) 2 false loadY s

/-- LDY, Zeropage, opcode A4, 3 cycles (40_load_store.md R204). -/
def execLdyZp (z : Byte) (s : State) : Result := readInstr (.zp z) 3 false loadY s

/-- LDY, Zeropage-X, opcode B4, 4 cycles (40_load_store.md R204). -/
def execLdyZpX (z : Byte) (s : State) : Result := readInstr (.zpx z) 4 false loadY s

/-- LDY, Absolute, opcode AC, 4 cycles (40_load_store.md R204). -/
def execLdyAbs (a : Addr) (s : State) : Result := readInstr (.abs a) 4 false loadY s

/-- LDY, Absolute-X, opcode BC, 4+p cycles (40_load_store.md R204). -/
def execLdyAbsX (a : Addr) (s : State) : Result := readInstr (.absx a) 4 true loadY s

/-- STA, Zeropage, opcode 85, 3 cycles (40_load_store.md R205). -/
def execStaZp (z : Byte) (s : State) : Result := storeInstr (.zp z) 3 Cpu.a s

/-- STA, Zeropage-X, opcode 95, 4 cycles (40_load_store.md R205). -/
def execStaZpX (z : Byte) (s : State) : Result := storeInstr (.zpx z) 4 Cpu.a s

/-- STA, Absolute, opcode 8D, 4 cycles (40_load_store.md R205). -/
def execStaAbs (a : Addr) (s : State) : Result := storeInstr (.abs a) 4 Cpu.a s

/-- STA, Absolute-X, opcode 9D, 5 cycles (40_load_store.md R205). -/
def execStaAbsX (a : Addr) (s : State) : Result := storeInstr (.absx a) 5 Cpu.a s

/-- STA, Absolute-Y, opcode 99, 5 cycles (40_load_store.md R205). -/
def execStaAbsY (a : Addr) (s : State) : Result := storeInstr (.absy a) 5 Cpu.a s

/-- STA, (Indirect,X), opcode 81, 6 cycles (40_load_store.md R205). -/
def execStaIndX (z : Byte) (s : State) : Result := storeInstr (.indx z) 6 Cpu.a s

/-- STA, (Indirect),Y, opcode 91, 6 cycles (40_load_store.md R205). -/
def execStaIndY (z : Byte) (s : State) : Result := storeInstr (.indy z) 6 Cpu.a s

/-- STX, Zeropage, opcode 86, 3 cycles (40_load_store.md R206). -/
def execStxZp (z : Byte) (s : State) : Result := storeInstr (.zp z) 3 Cpu.x s

/-- STX, Zeropage-Y, opcode 96, 4 cycles (40_load_store.md R206). -/
def execStxZpY (z : Byte) (s : State) : Result := storeInstr (.zpy z) 4 Cpu.x s

/-- STX, Absolute, opcode 8E, 4 cycles (40_load_store.md R206). -/
def execStxAbs (a : Addr) (s : State) : Result := storeInstr (.abs a) 4 Cpu.x s

/-- STY, Zeropage, opcode 84, 3 cycles (40_load_store.md R207). -/
def execStyZp (z : Byte) (s : State) : Result := storeInstr (.zp z) 3 Cpu.y s

/-- STY, Zeropage-X, opcode 94, 4 cycles (40_load_store.md R207). -/
def execStyZpX (z : Byte) (s : State) : Result := storeInstr (.zpx z) 4 Cpu.y s

/-- STY, Absolute, opcode 8C, 4 cycles (40_load_store.md R207). -/
def execStyAbs (a : Addr) (s : State) : Result := storeInstr (.abs a) 4 Cpu.y s

end Sys2Proof.Machine
end

