-- ==== Sys2Proof/Machine/ShiftInc.lean ====
section
/-! DEFINITION. Shifts, rotates, increments and decrements (43_shift_incdec.md R260 to R271). One definition per row of the opcode table. -/

namespace Sys2Proof.Machine

/-- ASL, Accumulator, opcode 0A, 2 cycles (43_shift_incdec.md R262). -/
def execAslAcc (s : State) : Result := shiftInstr .acc 2 shiftAsl s

/-- ASL, Zeropage, opcode 06, 5 cycles (43_shift_incdec.md R262). -/
def execAslZp (z : Byte) (s : State) : Result := shiftInstr (.zp z) 5 shiftAsl s

/-- ASL, Zeropage-X, opcode 16, 6 cycles (43_shift_incdec.md R262). -/
def execAslZpX (z : Byte) (s : State) : Result := shiftInstr (.zpx z) 6 shiftAsl s

/-- ASL, Absolute, opcode 0E, 6 cycles (43_shift_incdec.md R262). -/
def execAslAbs (a : Addr) (s : State) : Result := shiftInstr (.abs a) 6 shiftAsl s

/-- ASL, Absolute-X, opcode 1E, 7 cycles (43_shift_incdec.md R262). -/
def execAslAbsX (a : Addr) (s : State) : Result := shiftInstr (.absx a) 7 shiftAsl s

/-- LSR, Accumulator, opcode 4A, 2 cycles (43_shift_incdec.md R263). -/
def execLsrAcc (s : State) : Result := shiftInstr .acc 2 shiftLsr s

/-- LSR, Zeropage, opcode 46, 5 cycles (43_shift_incdec.md R263). -/
def execLsrZp (z : Byte) (s : State) : Result := shiftInstr (.zp z) 5 shiftLsr s

/-- LSR, Zeropage-X, opcode 56, 6 cycles (43_shift_incdec.md R263). -/
def execLsrZpX (z : Byte) (s : State) : Result := shiftInstr (.zpx z) 6 shiftLsr s

/-- LSR, Absolute, opcode 4E, 6 cycles (43_shift_incdec.md R263). -/
def execLsrAbs (a : Addr) (s : State) : Result := shiftInstr (.abs a) 6 shiftLsr s

/-- LSR, Absolute-X, opcode 5E, 7 cycles (43_shift_incdec.md R263). -/
def execLsrAbsX (a : Addr) (s : State) : Result := shiftInstr (.absx a) 7 shiftLsr s

/-- ROL, Accumulator, opcode 2A, 2 cycles (43_shift_incdec.md R264). -/
def execRolAcc (s : State) : Result := shiftInstr .acc 2 shiftRol s

/-- ROL, Zeropage, opcode 26, 5 cycles (43_shift_incdec.md R264). -/
def execRolZp (z : Byte) (s : State) : Result := shiftInstr (.zp z) 5 shiftRol s

/-- ROL, Zeropage-X, opcode 36, 6 cycles (43_shift_incdec.md R264). -/
def execRolZpX (z : Byte) (s : State) : Result := shiftInstr (.zpx z) 6 shiftRol s

/-- ROL, Absolute, opcode 2E, 6 cycles (43_shift_incdec.md R264). -/
def execRolAbs (a : Addr) (s : State) : Result := shiftInstr (.abs a) 6 shiftRol s

/-- ROL, Absolute-X, opcode 3E, 7 cycles (43_shift_incdec.md R264). -/
def execRolAbsX (a : Addr) (s : State) : Result := shiftInstr (.absx a) 7 shiftRol s

/-- ROR, Accumulator, opcode 6A, 2 cycles (43_shift_incdec.md R265). -/
def execRorAcc (s : State) : Result := shiftInstr .acc 2 shiftRor s

/-- ROR, Zeropage, opcode 66, 5 cycles (43_shift_incdec.md R265). -/
def execRorZp (z : Byte) (s : State) : Result := shiftInstr (.zp z) 5 shiftRor s

/-- ROR, Zeropage-X, opcode 76, 6 cycles (43_shift_incdec.md R265). -/
def execRorZpX (z : Byte) (s : State) : Result := shiftInstr (.zpx z) 6 shiftRor s

/-- ROR, Absolute, opcode 6E, 6 cycles (43_shift_incdec.md R265). -/
def execRorAbs (a : Addr) (s : State) : Result := shiftInstr (.abs a) 6 shiftRor s

/-- ROR, Absolute-X, opcode 7E, 7 cycles (43_shift_incdec.md R265). -/
def execRorAbsX (a : Addr) (s : State) : Result := shiftInstr (.absx a) 7 shiftRor s

/-- INC, Zeropage, opcode E6, 5 cycles (43_shift_incdec.md R266). -/
def execIncZp (z : Byte) (s : State) : Result := modifyInstr (.zp z) 5 (fun v => v + 1) s

/-- INC, Zeropage-X, opcode F6, 6 cycles (43_shift_incdec.md R266). -/
def execIncZpX (z : Byte) (s : State) : Result := modifyInstr (.zpx z) 6 (fun v => v + 1) s

/-- INC, Absolute, opcode EE, 6 cycles (43_shift_incdec.md R266). -/
def execIncAbs (a : Addr) (s : State) : Result := modifyInstr (.abs a) 6 (fun v => v + 1) s

/-- INC, Absolute-X, opcode FE, 7 cycles (43_shift_incdec.md R266). -/
def execIncAbsX (a : Addr) (s : State) : Result := modifyInstr (.absx a) 7 (fun v => v + 1) s

/-- DEC, Zeropage, opcode C6, 5 cycles (43_shift_incdec.md R267). -/
def execDecZp (z : Byte) (s : State) : Result := modifyInstr (.zp z) 5 (fun v => v - 1) s

/-- DEC, Zeropage-X, opcode D6, 6 cycles (43_shift_incdec.md R267). -/
def execDecZpX (z : Byte) (s : State) : Result := modifyInstr (.zpx z) 6 (fun v => v - 1) s

/-- DEC, Absolute, opcode CE, 6 cycles (43_shift_incdec.md R267). -/
def execDecAbs (a : Addr) (s : State) : Result := modifyInstr (.abs a) 6 (fun v => v - 1) s

/-- DEC, Absolute-X, opcode DE, 7 cycles (43_shift_incdec.md R267). -/
def execDecAbsX (a : Addr) (s : State) : Result := modifyInstr (.absx a) 7 (fun v => v - 1) s

/-- INX, Implied, opcode E8, 2 cycles (43_shift_incdec.md R268). -/
def execInx (s : State) : Result := impliedInstr 2 (fun s => (s.setX (s.cpu.x + 1)).setZN (s.cpu.x + 1)) s

/-- INY, Implied, opcode C8, 2 cycles (43_shift_incdec.md R269). -/
def execIny (s : State) : Result := impliedInstr 2 (fun s => (s.setY (s.cpu.y + 1)).setZN (s.cpu.y + 1)) s

/-- DEX, Implied, opcode CA, 2 cycles (43_shift_incdec.md R270). -/
def execDex (s : State) : Result := impliedInstr 2 (fun s => (s.setX (s.cpu.x - 1)).setZN (s.cpu.x - 1)) s

/-- DEY, Implied, opcode 88, 2 cycles (43_shift_incdec.md R271). -/
def execDey (s : State) : Result := impliedInstr 2 (fun s => (s.setY (s.cpu.y - 1)).setZN (s.cpu.y - 1)) s

end Sys2Proof.Machine
end

