-- ==== Sys2Proof/Machine/TransferStack.lean ====
section
/-! DEFINITION. The register transfers and the stack instructions (41_transfer_stack.md R220 to R231). -/

namespace Sys2Proof.Machine

/-- PHP's pushed byte: the flags with bits 5 and 4 set (41_transfer_stack.md R229). -/
def pushFlags (s : State) : State := push (s.cpu.p.pack true) s

/-- PLA: pull into A, set Z and N (41_transfer_stack.md R230). -/
def pullA (s : State) : State :=
  let r := pull s
  (r.2.setA r.1).setZN r.1

/-- PLP: pull the flags through `UnpackP` (41_transfer_stack.md R231). -/
def pullFlags (s : State) : State :=
  let r := pull s
  r.2.setP (r.2.cpu.p.unpack r.1)

/-- TAX, Implied, opcode AA, 2 cycles (41_transfer_stack.md R222). -/
def execTax (s : State) : Result := impliedInstr 2 (fun s => (s.setX s.cpu.a).setZN s.cpu.a) s

/-- TAY, Implied, opcode A8, 2 cycles (41_transfer_stack.md R223). -/
def execTay (s : State) : Result := impliedInstr 2 (fun s => (s.setY s.cpu.a).setZN s.cpu.a) s

/-- TXA, Implied, opcode 8A, 2 cycles (41_transfer_stack.md R224). -/
def execTxa (s : State) : Result := impliedInstr 2 (fun s => (s.setA s.cpu.x).setZN s.cpu.x) s

/-- TYA, Implied, opcode 98, 2 cycles (41_transfer_stack.md R225). -/
def execTya (s : State) : Result := impliedInstr 2 (fun s => (s.setA s.cpu.y).setZN s.cpu.y) s

/-- TSX, Implied, opcode BA, 2 cycles (41_transfer_stack.md R226). -/
def execTsx (s : State) : Result := impliedInstr 2 (fun s => (s.setX s.cpu.sp).setZN s.cpu.sp) s

/-- TXS, Implied, opcode 9A, 2 cycles (41_transfer_stack.md R227). -/
def execTxs (s : State) : Result := impliedInstr 2 (fun s => s.setSp s.cpu.x) s

/-- PHA, Implied, opcode 48, 3 cycles (41_transfer_stack.md R228). -/
def execPha (s : State) : Result := impliedInstr 3 (fun s => push s.cpu.a s) s

/-- PHP, Implied, opcode 08, 3 cycles (41_transfer_stack.md R229). -/
def execPhp (s : State) : Result := impliedInstr 3 pushFlags s

/-- PLA, Implied, opcode 68, 4 cycles (41_transfer_stack.md R230). -/
def execPla (s : State) : Result := impliedInstr 4 pullA s

/-- PLP, Implied, opcode 28, 4 cycles (41_transfer_stack.md R231). -/
def execPlp (s : State) : Result := impliedInstr 4 pullFlags s

end Sys2Proof.Machine
end

