-- ==== Sys2Proof/Machine/CpuTick.lean ====
section
/-! DEFINITION. The CPU tick: the countdown, the polling of NMI and the DMA stall, fetch, decode and execute
(55_system_tick.md R455 to R459; 60_exceptions.md R482, R483). -/

namespace Sys2Proof.Machine

/-- Fetch the bytes of the instruction at `PC`: the opcode, then as many operand bytes as its length has, in ascending address
order (30_encoding.md R170, R174). An illegal opcode is fetched alone (55_system_tick.md R459). -/
def fetch (s : State) : List Byte × State :=
  let op := cpuRead s.cpu.pc s
  match opcodeLength op.1 with
  | some 2 =>
    let b1 := cpuRead (s.cpu.pc + 1) op.2
    ([op.1, b1.1], b1.2)
  | some 3 =>
    let b1 := cpuRead (s.cpu.pc + 1) op.2
    let b2 := cpuRead (s.cpu.pc + 2) b1.2
    ([op.1, b1.1, b2.1], b2.2)
  | _ => ([op.1], op.2)

/-- Fetch, decode and execute one instruction; an opcode byte without a row raises `IllegalOpcode` (30_encoding.md R175;
55_system_tick.md R455, R459). -/
def runInstruction (s : State) : Result :=
  let f := fetch s
  match decode f.1 with
  | .ok (i, _) => exec i f.2
  | .error _ => .next (raiseIllegal (f.1.headD 0) f.2)

/-- What a boundary starts: a pending NMI, else a pending DMA stall, else the next instruction (60_exceptions.md R483). -/
def boundary (s : State) : Result :=
  if s.cpu.nmiPending then .next (nmiEntry s)
  else if s.cpu.dmaPending then .next (dmaStallEntry s)
  else runInstruction s

/-- The decrement that ends a CPU tick (55_system_tick.md R455); a faulted machine keeps its countdown (R459). -/
def endCpuTick (s : State) : State :=
  if s.sys.phase = .faulted then s else s.setCountdown (s.cpu.countdown - 1)

/-- `CpuTick` (55_system_tick.md R455). -/
def cpuTick (s : State) : Result :=
  if s.cpu.countdown = 0 then
    match boundary s with
    | .next t => .next (endCpuTick t)
    | .fault r => .fault r
    | .refused r => .refused r
  else .next (s.setCountdown (s.cpu.countdown - 1))

end Sys2Proof.Machine
end

