-- ==== Sys2Proof/Machine/Pixel.lean ====
section
/-! DEFINITION. The scroll increments (50_ppu.md R356, R357) and the pixel path up to the framebuffer write (R372 to R380). -/

namespace Sys2Proof.Machine

/-- `IncCoarseX(v)` (50_ppu.md R356). -/
def incCoarseX (v : BitVec 15) : BitVec 15 :=
  if v.extractLsb' 0 5 = 31 then v.extractLsb' 11 4 ++ ~~~(v.extractLsb' 10 1) ++ v.extractLsb' 5 5 ++ 0#5
  else v.extractLsb' 5 10 ++ (v.extractLsb' 0 5 + 1)

/-- `IncY(v)` (50_ppu.md R357). -/
def incY (v : BitVec 15) : BitVec 15 :=
  let fineY := v.extractLsb' 12 3
  let coarseY := v.extractLsb' 5 5
  let coarseX := v.extractLsb' 0 5
  if fineY.toNat < 7 then (fineY + 1) ++ v.extractLsb' 0 12
  else if coarseY = 29 then 0#3 ++ ~~~(v.extractLsb' 11 1) ++ v.extractLsb' 10 1 ++ 0#5 ++ coarseX
  else if coarseY = 31 then 0#3 ++ v.extractLsb' 10 2 ++ 0#5 ++ coarseX
  else 0#3 ++ v.extractLsb' 10 2 ++ (coarseY + 1) ++ coarseX

/-- A background pixel: its 2-bit value and its palette (50_ppu.md R372). -/
structure BgPixel where
  px : BitVec 2
  pal : BitVec 2
  deriving DecidableEq, Repr

/-- A sprite pixel (50_ppu.md R375). -/
structure SpritePixel where
  px : BitVec 2
  pal : BitVec 2
  behind : Bool
  isZero : Bool
  deriving DecidableEq, Repr

/-- No sprite pixel (50_ppu.md R375). -/
def SpritePixel.transparent : SpritePixel := ⟨0, 0, false, false⟩

/-- The 2-bit pixel of a column from its two pattern bytes; bit 7 is the leftmost pixel (50_ppu.md R372). -/
def patternPixel (lo hi : Byte) (col : Nat) : BitVec 2 :=
  BitVec.ofBool (hi.getLsbD (7 - col)) ++ BitVec.ofBool (lo.getLsbD (7 - col))

/-- The nametable address of `vv` (50_ppu.md R372). -/
def nametableAddr (vv : BitVec 15) : BitVec 14 := 0x2000#14 ||| (vv.extractLsb' 0 14 &&& 0x0FFF#14)

/-- The attribute address of `vv` (50_ppu.md R372). -/
def attributeAddr (vv : BitVec 15) : BitVec 14 :=
  (0x23C0#15 ||| (vv &&& 0x0C00#15) ||| ((vv >>> 4) &&& 0x38#15) ||| ((vv >>> 2) &&& 0x07#15)).extractLsb' 0 14

/-- The shift that selects the attribute's quadrant (50_ppu.md R372, R373). -/
def attributeShift (vv : BitVec 15) : Nat := (((vv >>> 4) &&& 4#15) ||| (vv &&& 2#15)).toNat

/-- The background's pattern address of a tile (50_ppu.md R372). -/
def bgPatternAddr (p : Ppu) (tile : Byte) (vv : BitVec 15) : BitVec 14 :=
  0#1 ++ BitVec.ofBool p.bgTable ++ tile ++ 0#1 ++ vv.extractLsb' 12 3

/-- The background pixel at column `x`, from the current `v` and fine x (50_ppu.md R372 to R374). -/
def State.bgPixel (s : State) (x : Nat) : BgPixel :=
  if s.ppu.showBg = false ∨ (x < 8 ∧ s.ppu.showBgLeft = false) then ⟨0, 0⟩
  else
    let fx0 := s.ppu.x.toNat + x % 8
    let vv := if 8 ≤ fx0 then incCoarseX s.ppu.v else s.ppu.v
    let fx := if 8 ≤ fx0 then fx0 - 8 else fx0
    let tile := s.ppuRead (nametableAddr vv)
    let pa := bgPatternAddr s.ppu tile vv
    let attr := s.ppuRead (attributeAddr vv)
    ⟨patternPixel (s.ppuRead pa) (s.ppuRead (pa + 8)) fx, (attr >>> attributeShift vv).extractLsb' 0 2⟩

/-- The sprite height (50_ppu.md R365). -/
def Ppu.spriteHeight (p : Ppu) : Nat := if p.spr16 then 16 else 8

/-- The pattern row of a latched sprite on scanline `y`: `(y - 1) - sy`, turned to `(h - 1) - row` by a vertical flip (50_ppu.md
R375). The scanline is a natural number (10_state.md R36), so the row is a whole number; a stale sprite latch can make it lie
outside `0 ≤ row < h`, below 0 too (notes/assumptions/9.md). -/
def spriteRow (y : Nat) (sy : Byte) (h : Nat) (flip : Bool) : Int :=
  let row : Int := y - 1 - sy.toNat
  if flip then h - 1 - row else row

/-- `SpritePatternAddr(tile, row)`, a 14-bit address (50_ppu.md R376; 00_scope.md R12). A negative row enters in two's complement
(notes/assumptions/9.md). -/
def spritePatternAddr (p : Ppu) (tile : Byte) (row : Int) : BitVec 14 :=
  let row14 := BitVec.ofInt 14 row
  if p.spr16 then
    (((tile &&& 1#8).zeroExtend 14) <<< 12) ||| (((tile &&& 0xFE#8).zeroExtend 14) <<< 4) |||
      (if 8 ≤ row then 16#14 else 0#14) ||| (row14 &&& 7#14)
  else (((BitVec.ofBool p.sprTable).zeroExtend 14) <<< 12) ||| ((tile.zeroExtend 14) <<< 4) ||| row14

/-- The pixel the `i`-th latched sprite gives at (x, y), if it covers it with a non-transparent pixel (50_ppu.md R375). -/
def State.spriteAt (s : State) (x y i : Nat) : Option SpritePixel :=
  let sy := s.ppu.lineSpr.read (4 * i)
  let tile := s.ppu.lineSpr.read (4 * i + 1)
  let attr := s.ppu.lineSpr.read (4 * i + 2)
  let sx := (s.ppu.lineSpr.read (4 * i + 3)).toNat
  if x < sx ∨ 7 < x - sx then none
  else
    let col := if attr.getLsbD 6 then 7 - (x - sx) else x - sx
    let pa := spritePatternAddr s.ppu tile (spriteRow y sy s.ppu.spriteHeight (attr.getLsbD 7))
    let p := patternPixel (s.ppuRead pa) (s.ppuRead (pa + 8)) col
    if p = 0 then none
    else some ⟨p, attr.extractLsb' 0 2, attr.getLsbD 5, i == 0 && s.ppu.lineSpr0⟩

/-- The sprite pixel at (x, y): the lowest-numbered latched sprite that is not transparent there (50_ppu.md R374, R375). -/
def State.spritePixel (s : State) (x y : Nat) : SpritePixel :=
  if s.ppu.showSpr = true ∧ ¬(x < 8 ∧ s.ppu.showSprLeft = false) then
    ((List.range s.ppu.lineCount).findSome? (s.spriteAt x y)).getD .transparent
  else .transparent

/-- The palette index of a transparent pixel: the backdrop, or `v & 0x1F` when rendering is disabled and `v` points into palette
space (50_ppu.md R377, R379). -/
def Ppu.backdropIndex (p : Ppu) : BitVec 5 :=
  if p.rendering = false ∧ 0x3F00 ≤ p.vAddr.toNat then p.v.extractLsb' 0 5 else 0

/-- Compositing: the palette index of the pixel (50_ppu.md R377). -/
def Ppu.composite (p : Ppu) (bg : BgPixel) (sp : SpritePixel) : BitVec 5 :=
  let bgIndex : BitVec 5 := 0#1 ++ bg.pal ++ bg.px
  let spIndex : BitVec 5 := 1#1 ++ sp.pal ++ sp.px
  if bg.px = 0 then (if sp.px = 0 then p.backdropIndex else spIndex)
  else if sp.px = 0 then bgIndex
  else if sp.behind then bgIndex
  else spIndex

/-- `Emphasis(r, g, b, e)`: the identity for e = 0, a free value otherwise (50_ppu.md R380; notes/assumptions/5.md). -/
def emphasis (c : Rgb) (e : BitVec 3) : Rgb := if e = 0 then c else Config.emphasis c e

/-- The colour index of a palette index, after grayscale (50_ppu.md R380). -/
def Ppu.colourIndex (p : Ppu) (idx : BitVec 5) : Byte :=
  let c := p.palette.read (palIndex (idx.zeroExtend 14)) &&& 0x3F#8
  if p.gray then c &&& 0x30#8 else c

/-- The RGB triple written for a palette index (50_ppu.md R380). -/
def State.colour (s : State) (idx : BitVec 5) : Rgb :=
  let c := (s.ppu.colourIndex idx).toNat
  emphasis ⟨s.cfg.ntscPalette.read (3 * c), s.cfg.ntscPalette.read (3 * c + 1), s.cfg.ntscPalette.read (3 * c + 2)⟩ s.ppu.emph

/-- The framebuffer with pixel (x, y) written in the order R, G, B, A, alpha 0xFF (10_state.md R40; 50_ppu.md R380). -/
def writePixel (fb : Memory) (x y : Nat) (c : Rgb) : Memory :=
  let o := 4 * (256 * y + x)
  (((fb.write o c.r).write (o + 1) c.g).write (o + 2) c.b).write (o + 3) 0xFF

/-- The sprite-0 hit condition of one pixel (50_ppu.md R378). -/
def zeroHit (bg : BgPixel) (sp : SpritePixel) (x : Nat) : Bool := sp.isZero && bg.px != 0 && sp.px != 0 && x != 255

/-- `RenderPixel(x, y)` (50_ppu.md R350, R372 to R380). -/
def State.renderPixel (s : State) (x y : Nat) : State :=
  let bg := s.bgPixel x
  let sp := s.spritePixel x y
  s.setPpu { s.ppu with
    spr0Hit := s.ppu.spr0Hit || zeroHit bg sp x,
    fb := writePixel s.ppu.fb x y (s.colour (s.ppu.composite bg sp)) }

end Sys2Proof.Machine
end

