-- ==== Sys2Proof/Machine/SpriteEval.lean ====
section
/-! DEFINITION. Sprite evaluation, one step per dot (50_ppu.md R363, R366 to R371). -/

namespace Sys2Proof.Machine

/-- A Y byte is in range on a scanline (50_ppu.md R366). -/
def Ppu.inRange (p : Ppu) (y : Byte) : Bool :=
  decide (y.toNat ≤ p.scanline) && decide (p.scanline - y.toNat < p.spriteHeight)

/-- `NextSprite` (50_ppu.md R370). -/
def Ppu.nextSprite (p : Ppu) : Ppu := if p.evN = 63 then { p with evPhase := .done } else { p with evN := p.evN + 1 }

/-- Dots 1 to 64, even: clear one byte of secondary OAM (50_ppu.md R367). -/
def Ppu.clearSecondary (p : Ppu) : Ppu := { p with secOam := p.secOam.write (p.dot / 2 - 1) 0xFF }

/-- Dot 65: evaluation starts at sprite 0 (50_ppu.md R368). -/
def Ppu.startEvaluation (p : Ppu) : Ppu :=
  { p with evN := 0, evM := 0, evFound := 0, evSpr0 := false, evPhase := .scan }

/-- Dots 65 to 256, odd: latch an OAM byte (50_ppu.md R369). -/
def Ppu.evRead (p : Ppu) : Ppu :=
  if p.evPhase = .done then p else { p with evLatch := p.oam.read ((4 * p.evN + p.evM.toNat) % 256) }

/-- Phase Scan (50_ppu.md R370). -/
def Ppu.evScan (p : Ppu) : Ppu :=
  let p1 := { p with secOam := p.secOam.write (4 * p.evFound) p.evLatch }
  if p.inRange p.evLatch then
    { p1 with evSpr0 := if p.evN = 0 then true else p.evSpr0, evM := 1, evPhase := .copy }
  else p1.nextSprite

/-- Phase Copy (50_ppu.md R370). -/
def Ppu.evCopy (p : Ppu) : Ppu :=
  let p1 := { p with secOam := p.secOam.write (4 * p.evFound + p.evM.toNat) p.evLatch }
  if p.evM.toNat < 3 then { p1 with evM := p.evM + 1 }
  else
    { p1 with evM := 0, evFound := p.evFound + 1, evPhase := if p.evFound + 1 = 8 then .ovfScan else .scan }.nextSprite

/-- Phase OvfScan: the documented bug, `ev_m` advances together with `ev_n` (50_ppu.md R370, R371). -/
def Ppu.evOverflow (p : Ppu) : Ppu :=
  if p.inRange p.evLatch then { p with overflow := true, evPhase := .done }
  else { p with evM := p.evM + 1 }.nextSprite

/-- Dots 66 to 256, even: act on the latched byte (50_ppu.md R370). -/
def Ppu.evAct (p : Ppu) : Ppu :=
  match p.evPhase with
  | .scan => p.evScan
  | .copy => p.evCopy
  | .ovfScan => p.evOverflow
  | .done => p

/-- Dot 257 of a visible line: latch the sprites of the next line (50_ppu.md R363). -/
def Ppu.latchSprites (p : Ppu) : Ppu :=
  if p.rendering then { p with lineSpr := p.secOam, lineCount := p.evFound, lineSpr0 := p.evSpr0 }
  else { p with lineCount := 0, lineSpr0 := false }

/-- The evaluation step of one dot of a visible line (50_ppu.md R366 to R370, R363). -/
def Ppu.evaluate (p : Ppu) : Ppu :=
  let d := p.dot
  if d = 257 then p.latchSprites
  else if p.rendering = false then p
  else if 1 ≤ d ∧ d ≤ 64 then (if d % 2 = 0 then p.clearSecondary else p)
  else if d = 65 then p.startEvaluation.evRead
  else if 65 < d ∧ d ≤ 256 then (if d % 2 = 0 then p.evAct else p.evRead)
  else p

end Sys2Proof.Machine
end

