-- ==== Sys2Proof/Machine/PpuTick.lean ====
section
/-! DEFINITION. One PPU tick: flags, pixel, sprites, scroll, advance (50_ppu.md R350 to R362). -/

namespace Sys2Proof.Machine

/-- The pre-render line (50_ppu.md R322). -/
def preRender (tv : TvSystem) : Nat := linesPerFrame tv - 1

/-- At (241, 1): the vblank flag and the NMI request, unless suppressed (50_ppu.md R352). -/
def State.startVblank (s : State) : State :=
  if s.ppu.suppressVbl then s.setPpu { s.ppu with suppressVbl := false }
  else
    let s1 := s.setPpu { s.ppu with vblank := true, suppressVbl := false }
    if s.ppu.nmiEnable then s1.setNmi true else s1

/-- At dot 1 of the pre-render line: the three status flags fall (50_ppu.md R355). -/
def Ppu.clearStatus (p : Ppu) : Ppu := { p with vblank := false, spr0Hit := false, overflow := false }

/-- Step 1, flags (50_ppu.md R350). -/
def State.flagStep (tv : TvSystem) (s : State) : State :=
  let s1 := if s.ppu.at 241 1 then s.startVblank else s
  if s1.ppu.at (preRender tv) 1 then s1.setPpu s1.ppu.clearStatus else s1

/-- Step 2, pixel (50_ppu.md R323, R350). -/
def State.pixelStep (s : State) : State :=
  if s.ppu.scanline < 240 ∧ 1 ≤ s.ppu.dot ∧ s.ppu.dot ≤ 256 then s.renderPixel (s.ppu.dot - 1) s.ppu.scanline else s

/-- Step 3, sprites (50_ppu.md R350, R363). -/
def Ppu.spriteStep (tv : TvSystem) (p : Ppu) : Ppu :=
  if p.scanline < 240 then p.evaluate
  else if p.at (preRender tv) 257 then { p with lineCount := 0, lineSpr0 := false }
  else p

/-- The horizontal bits of `t` copied into `v` (50_ppu.md R358). -/
def copyHorizontal (v t : BitVec 15) : BitVec 15 :=
  v.extractLsb' 11 4 ++ t.extractLsb' 10 1 ++ v.extractLsb' 5 5 ++ t.extractLsb' 0 5

/-- The vertical bits of `t` copied into `v` (50_ppu.md R359). -/
def copyVertical (v t : BitVec 15) : BitVec 15 :=
  t.extractLsb' 11 4 ++ v.extractLsb' 10 1 ++ t.extractLsb' 5 5 ++ v.extractLsb' 0 5

/-- `v` after step 4, scroll (50_ppu.md R350, R356 to R359). -/
def Ppu.scrolledV (tv : TvSystem) (p : Ppu) : BitVec 15 :=
  if p.rendering = true ∧ (p.scanline < 240 ∨ p.scanline = preRender tv) then
    let v1 := if 8 ≤ p.dot ∧ p.dot ≤ 256 ∧ p.dot % 8 = 0 then incCoarseX p.v else p.v
    let v2 := if p.dot = 256 then incY v1 else v1
    let v3 := if p.dot = 257 then copyHorizontal v2 p.t else v2
    if p.scanline = preRender tv ∧ p.dot = 280 then copyVertical v3 p.t else v3
  else p.v

/-- Step 4, scroll (50_ppu.md R350). -/
def Ppu.scrollStep (tv : TvSystem) (p : Ppu) : Ppu := { p with v := p.scrolledV tv }

/-- The odd-frame skip happens in this tick (50_ppu.md R360; 90_conflicts.md C9). -/
def Ppu.skipsDot (tv : TvSystem) (p : Ppu) : Bool :=
  decide (tv = .ntsc) && p.at (preRender tv) 338 && p.oddFrame && p.showBg

/-- The frame wrap (50_ppu.md R362). -/
def Ppu.frameWrap (p : Ppu) : Ppu :=
  { p with scanline := 0, oddFrame := !p.oddFrame, doneFb := p.fb, frameReady := true }

/-- Step 5, advance (50_ppu.md R360 to R362). -/
def Ppu.advance (tv : TvSystem) (p : Ppu) : Ppu :=
  if p.skipsDot tv then { p with dot := 340 }
  else if p.dot + 1 = dotsPerLine then
    let p1 := { p with dot := 0, scanline := p.scanline + 1 }
    if p1.scanline = linesPerFrame tv then p1.frameWrap else p1
  else { p with dot := p.dot + 1 }

/-- `PpuTick` (50_ppu.md R350). -/
def State.ppuTick (s : State) : State :=
  let tv := s.cfg.header.tv
  let s2 := (s.flagStep tv).pixelStep
  s2.setPpu (((s2.ppu.spriteStep tv).scrollStep tv).advance tv)

end Sys2Proof.Machine
end

