-- ==== Sys2Proof/Machine/System.lean ====
section
/-! DEFINITION. The orchestrator's `tick` (55_system_tick.md R450 to R454, R470 to R472), and the placing of an instruction where
the next step fetches. -/

namespace Sys2Proof.Machine

/-- The PPU part of a master-clock unit (55_system_tick.md R452). -/
def ppuPart (s : State) : State := if s.sys.master % masterPerPpu s.cfg.header.tv = 0 then s.ppuTick else s

/-- This unit steps the CPU (55_system_tick.md R452). -/
def cpuDue (s : State) : Bool := s.sys.master % masterPerCpu s.cfg.header.tv == 0

/-- The end of a master-clock unit (55_system_tick.md R452). -/
def countUnit (s : State) : State := s.setSys { s.sys with master := s.sys.master + 1 }

/-- The APU part of a unit that stepped the CPU, skipped if the CPU tick faulted (55_system_tick.md R452). -/
def apuPart (s : State) : State := if s.sys.phase = .running then s.apuTick else s

/-- One master-clock unit of a running machine: PPU, then CPU, then APU (55_system_tick.md R452). -/
def masterUnit (s : State) : Result :=
  let s1 := ppuPart s
  if cpuDue s then
    match cpuTick s1 with
    | .next t => .next (countUnit (apuPart t))
    | .fault r => .fault r
    | .refused r => .refused r
  else .next (countUnit s1)

/-- `tick` in every phase (55_system_tick.md R471, R472; 21_mappers.md R122, R166). -/
def systemTick (s : State) : Result :=
  match s.sys.phase with
  | .running => if s.cfg.header.mapper = .unsupported then .refused .unsupportedMapper else masterUnit s
  | .faulted => .fault (.halted s.cpu.fault)
  | .empty => .refused (.uninitializedUse .empty)
  | .loaded => .refused (.uninitializedUse .loaded)
  | .loadFailed => .refused .unsupportedMapper

/-- A CPU address is backed by plain memory, so that a byte can be placed there (notes/assumptions/11.md). -/
def placeable (s : State) (a : Addr) : Bool :=
  match cpuTarget a with
  | .ram _ | .cartRom => true
  | .cartRam => (prgRamIndex s.cfg s.mapper a).isSome
  | .ppuReg _ | .pulse _ _ | .oamDma | .apuStatus | .controller | .frameCounter | .unmapped => false

/-- Place a byte in the memory behind a CPU address, PRG-ROM included: what an assembler of the image would do
(notes/assumptions/11.md). -/
def placeByte (a : Addr) (v : Byte) (s : State) : State :=
  match cpuTarget a with
  | .ram i => s.setRam (s.ram.write i v)
  | .cartRam => s.cartRamWrite a v
  | .cartRom => { s with cfg := { s.cfg with prgRom := s.cfg.prgRom.write (prgOffset s.cfg s.mapper a) v } }
  | .ppuReg _ | .pulse _ _ | .oamDma | .apuStatus | .controller | .frameCounter | .unmapped => s

/-- Place bytes at consecutive CPU addresses. -/
def placeBytes : Addr → List Byte → State → State
  | _, [], s => s
  | a, v :: rest, s => placeBytes (a + 1) rest (placeByte a v s)

/-- The machine made ready to fetch in its very next step: running, at a boundary of a unit that steps the CPU, with no NMI or
stall pending or about to be raised (notes/assumptions/11.md). -/
def readyToFetch (s : State) : State :=
  { s with
    cfg := if s.cfg.header.mapper = .unsupported then
        { s.cfg with header := { s.cfg.header with mapper := .nrom } } else s.cfg,
    cpu := { s.cpu with countdown := 0, nmiPending := false, dmaPending := false },
    ppu := if s.ppu.at 241 1 then { s.ppu with suppressVbl := true } else s.ppu,
    sys := { s.sys with
      phase := .running,
      master := if cpuDue s then s.sys.master else 0 } }

/-- The three bytes of an instruction placed where the next step fetches: at `PC`, or at 0x0000 where `PC` points at no plain
memory (notes/assumptions/11.md). -/
def placeInstruction (bytes : List Byte) (s : State) : State :=
  let s1 := readyToFetch s
  let ok := placeable s1 s1.cpu.pc && placeable s1 (s1.cpu.pc + 1) && placeable s1 (s1.cpu.pc + 2)
  let s2 := if ok then s1 else s1.setPc 0
  placeBytes s2.cpu.pc bytes s2

end Sys2Proof.Machine
end

