-- ==== Sys2Proof/Machine/Step.lean ====
section
/-! DEFINITION. One step of the machine: one call of `tick`, one master-clock unit (55_system_tick.md R450). -/

namespace Sys2Proof.Machine

/-- One step: `tick` (55_system_tick.md R450 to R452, R471, R472; notes/assumptions/12.md). -/
def step (s : State) : Host.Outcome State Fault Refusal := systemTick s

/-- The state with the instruction of a table word stored where the next step fetches (notes/assumptions/11.md). -/
def State.withFetchWord (s : State) (nbits w : Nat) : State := placeInstruction (tableWordBytes nbits w) s

end Sys2Proof.Machine
end

