-- ==== Sys2Proof/Machine/HostOps.lean ====
section
/-! DEFINITION. What the host may do between two ticks (55_system_tick.md R470 to R475): create, load a cartridge (21_mappers.md
R120 to R125), power up and reset (70_reset_and_hazards.md R520 to R529), set the controller, clear frame-ready, and read. -/

namespace Sys2Proof.Machine

/-- The outcomes a host operation reports (60_exceptions.md R499). -/
inductive HostError where
  | ioError
  | unsupportedFormat
  | unsupportedMapper (number : Option Nat)
  | uninitializedUse
  deriving DecidableEq, Repr

/-- `RAM_INIT`: the launch contents of the memories power-up gives no value (93_implementation_defined.md U5;
70_reset_and_hazards.md R524, R525). -/
structure LaunchMemory where
  ram : Memory
  nt : Memory
  palette : Memory
  oam : Memory
  lineSpr : Memory
  prgRam : Memory
  chrRam : Memory
  deriving DecidableEq, Repr

/-- `MAPPER` of a mapper number; 71 is remapped to UxROM (21_mappers.md R122). -/
def mapperOfNumber (m : Nat) : MapperKind :=
  if m = 0 then .nrom
  else if m = 1 then .mmc1
  else if m = 2 ∨ m = 71 then .uxrom
  else if m = 7 then .axrom
  else .unsupported

/-- `HEADER_MIRRORING` from header byte 6 (21_mappers.md R123). -/
def headerMirroring (b6 : Byte) : Mirroring :=
  if b6.getLsbD 3 then .fourScreen else if b6.getLsbD 0 then .vertical else .horizontal

/-- The mapper number: byte 7's high nibble over byte 6's (21_mappers.md R122). -/
def mapperNumber (b6 b7 : Byte) : Nat := ((b7 &&& 0xF0#8) ||| (b6 >>> 4)).toNat

/-- The magic bytes of a cartridge image (21_mappers.md R120). -/
def magic : List Byte := [0x4E, 0x45, 0x53, 0x1A]

/-- The fields of header bytes 4 to 15 (21_mappers.md R120 to R124). -/
def headerOfBytes (b4 b5 b6 b7 b8 b9 : Byte) (rest : List Byte) : Header where
  prgUnits := b4.toNat
  chrUnits := b5.toNat
  prgRamUnits := b8.toNat
  mapper := mapperOfNumber (mapperNumber b6 b7)
  mirroring := headerMirroring b6
  tv := if b9.getLsbD 0 then .pal else .ntsc
  trainer := b6.getLsbD 2
  nes2 := b7.extractLsb' 2 2 == 2
  persistent := b6.getLsbD 1
  vsUnisystem := b7.getLsbD 0
  playChoice := b7.getLsbD 1
  reserved := rest

/-- The header of an image and its mapper number; none for a wrong magic or fewer than 16 bytes (21_mappers.md R120, R125). -/
def parseHeader (image : List Byte) : Option (Header × Nat) :=
  match image with
  | m0 :: m1 :: m2 :: m3 :: b4 :: b5 :: b6 :: b7 :: b8 :: b9 :: b10 :: b11 :: b12 :: b13 :: b14 :: b15 :: _ =>
    if [m0, m1, m2, m3] = magic then
      some (headerOfBytes b4 b5 b6 b7 b8 b9 [b10, b11, b12, b13, b14, b15], mapperNumber b6 b7)
    else none
  | _ => none

/-- Where PRG-ROM begins in the image: after the header and the trainer (21_mappers.md R121). -/
def Header.prgStart (h : Header) : Nat := 16 + if h.trainer then 512 else 0

/-- How many bytes the header claims (21_mappers.md R121). -/
def Header.imageSize (h : Header) : Nat := h.prgStart + 16384 * h.prgUnits + 8192 * h.chrUnits

/-- The format of an image is accepted: it has PRG-ROM, is as long as its header claims, and is no NES 2.0 image unless the
policy accepts those (21_mappers.md R125; 92_eei_decisions.md D28). -/
def formatAccepted (h : Header) (image : List Byte) (nes2Accept : Bool) : Bool :=
  h.prgUnits != 0 && decide (h.imageSize ≤ image.length) && (!h.nes2 || nes2Accept)

/-- `create()` (55_system_tick.md R472): no cartridge, phase Empty, controller 0 (R529). The absent state is a blank record
(notes/assumptions/17.md). -/
def State.created : State where
  cpu :=
    { a := 0, x := 0, y := 0, sp := 0, pc := 0, p := Flags.powerUp, countdown := 0, mode := .imp, ea := 0,
      pageCrossed := false, nmiPending := false, dmaPending := false, fault := none }
  ppu := Ppu.powerUp [] [] [] []
  apu := Apu.powerUp
  mapper := Mapper.powerUp Header.scenarioOne
  cfg := { CartConfig.scenarioOne with prgRom := [] }
  prgRam := []
  chrRam := []
  ram := []
  sys := { master := 0, phase := .empty, ctrlButtons := 0, ctrlShift := 0, ctrlStrobe := false }
  draws := 0

/-- The configuration of an accepted image (00_scope.md R7; 21_mappers.md R121). -/
def configOf (h : Header) (image palette : List Byte) (old : CartConfig) : CartConfig :=
  { old with
    header := h,
    prgRom := Memory.ofBytes ((image.drop h.prgStart).take (16384 * h.prgUnits)),
    chrRom := Memory.ofBytes ((image.drop (h.prgStart + 16384 * h.prgUnits)).take (8192 * h.chrUnits)),
    ntscPalette := Memory.ofBytes palette }

/-- The report an accepted header makes: UnsupportedFormat for an NES 2.0 one, although loading continues (21_mappers.md R125). -/
def Header.formatReport (h : Header) : List HostError := if h.nes2 then [.unsupportedFormat] else []

/-- `load_game` (55_system_tick.md R472 to R474; 21_mappers.md R120 to R125, R166; 60_exceptions.md R499): the new state and
everything that is reported, in the order of the checks; an empty report is a plain success. A file that cannot be read is
`none`. The order of the checks and what a failed load keeps are the model's choice (notes/assumptions/16.md). -/
def loadGame (image palette : Option (List Byte)) (s : State) : State × List HostError :=
  match image, palette with
  | some img, some pal =>
    if pal.length ≠ 192 then (s, [.ioError])
    else
      match parseHeader img with
      | none => (s.setPhase .loadFailed, [.unsupportedFormat])
      | some (h, number) =>
        if formatAccepted h img s.cfg.nes2Accept = false then (s.setPhase .loadFailed, [.unsupportedFormat])
        else if h.mapper = .unsupported then
          ({ s with cfg := { s.cfg with header := h } }.setPhase .loadFailed,
            h.formatReport ++ [.unsupportedMapper (some number)])
        else ({ s with cfg := configOf h img pal s.cfg, mapper := Mapper.powerUp h }.setPhase .loaded, h.formatReport)
  | _, _ => (s, [.ioError])

/-- The CPU's part of power-up before the vector is read (70_reset_and_hazards.md R521). -/
def Cpu.powerUp : Cpu :=
  { a := 0, x := 0, y := 0, sp := 0xFD, pc := 0, p := Flags.powerUp, countdown := resetCycles, mode := .imp, ea := 0,
    pageCrossed := false, nmiPending := false, dmaPending := false, fault := none }

/-- Load `PC` from the reset vector and charge the reset cost (70_reset_and_hazards.md R522, R523). -/
def enterReset (s : State) : State :=
  let target := cpuReadWord resetVector s
  ((target.2.setPc target.1).setCountdown resetCycles).setPhase .running

/-- The effect of `power_up()` (70_reset_and_hazards.md R520 to R525), over the launch contents of the memories. -/
def powerUpState (launch : LaunchMemory) (s : State) : State :=
  enterReset
    { s with
      cpu := Cpu.powerUp,
      ppu := Ppu.powerUp launch.nt launch.palette launch.oam launch.lineSpr,
      apu := Apu.powerUp,
      mapper := Mapper.powerUp s.cfg.header,
      ram := launch.ram, prgRam := launch.prgRam, chrRam := launch.chrRam,
      sys := { s.sys with master := 0, ctrlShift := 0, ctrlStrobe := false } }

/-- The PPU after `reset()` (70_reset_and_hazards.md R526, R527). -/
def Ppu.warmReset (p : Ppu) : Ppu :=
  { p with
    ctrl := 0, mask := 0, vblank := false, spr0Hit := false, overflow := false, t := 0, x := 0, w := false,
    readBuffer := 0, dot := 0, scanline := 0, oddFrame := false, suppressVbl := false, frameReady := false,
    secOam := Memory.allOnes32, evN := 0, evM := 0, evFound := 0, evPhase := .done, evLatch := 0, evSpr0 := false,
    lineCount := 0, lineSpr0 := false }

/-- The APU after `reset()` (70_reset_and_hazards.md R526, R527). -/
def Apu.warmReset (a : Apu) : Apu :=
  { a with
    p1 := { a.p1 with enabled := false, length := 0 },
    p2 := { a.p2 with enabled := false, length := 0 },
    fsCycle := 0, half := false }

/-- The CPU after `reset()`, before the vector is read (70_reset_and_hazards.md R526). -/
def Cpu.warmReset (c : Cpu) : Cpu :=
  { c with sp := c.sp - 3, p := { c.p with i := true }, nmiPending := false, dmaPending := false, fault := none }

/-- The effect of `reset()` (70_reset_and_hazards.md R526, R527). -/
def warmResetState (s : State) : State :=
  enterReset
    { s with
      cpu := s.cpu.warmReset, ppu := s.ppu.warmReset, apu := s.apu.warmReset,
      sys := { s.sys with master := 0, ctrlShift := 0, ctrlStrobe := false } }

/-- `power_up()` in every phase (55_system_tick.md R471, R472). -/
def hostPowerUp (launch : LaunchMemory) (s : State) : Except HostError State :=
  match s.sys.phase with
  | .loaded | .running | .faulted => .ok (powerUpState launch s)
  | .empty => .error .uninitializedUse
  | .loadFailed => .error (.unsupportedMapper none)

/-- `reset()` in every phase (55_system_tick.md R471, R472). -/
def hostReset (s : State) : Except HostError State :=
  match s.sys.phase with
  | .running | .faulted => .ok (warmResetState s)
  | .empty | .loaded => .error .uninitializedUse
  | .loadFailed => .error (.unsupportedMapper none)

/-- `set_controller(b)`, defined in any phase but Empty (55_system_tick.md R472, R473). In Empty it is refused as UninitializedUse,
by the cause 60_exceptions.md R499 gives that outcome (DEDUCED: R471 does not list this operation; notes/assumptions/10.md). -/
def hostSetController (b : Byte) (s : State) : Except HostError State :=
  match s.sys.phase with
  | .empty => .error .uninitializedUse
  | .loaded | .loadFailed | .running | .faulted => .ok (s.setSys { s.sys with ctrlButtons := b })

/-- An operation defined in the phases Running and Faulted only: clear frame-ready, the reads of the frame, `Sample()`
(55_system_tick.md R472). DESIGN CHOICE: where refused it answers UninitializedUse, in Loaded and in LoadFailed as in Empty, for
R471 and R472 name no outcome for these operations (notes/assumptions/10.md). -/
def whenPowered {α : Type} (s : State) (r : α) : Except HostError α :=
  match s.sys.phase with
  | .running | .faulted => .ok r
  | .empty | .loaded | .loadFailed => .error .uninitializedUse

/-- Clear frame-ready (55_system_tick.md R472). -/
def hostClearFrameReady (s : State) : Except HostError State :=
  whenPowered s (s.setPpu { s.ppu with frameReady := false })

/-- Read the completed frame and the frame-ready flag (55_system_tick.md R472). -/
def hostReadFrame (s : State) : Except HostError (Memory × Bool) := whenPowered s (s.ppu.doneFb, s.ppu.frameReady)

/-- `Sample()` (55_system_tick.md R472; 51_apu.md R421). -/
def hostSample (s : State) : Except HostError Nat := whenPowered s s.apu.sample

/-- Read `cpu.fault`, in any phase (55_system_tick.md R472). -/
def hostReadFault (s : State) : Option IllegalOpcode := s.cpu.fault

end Sys2Proof.Machine
end

