-- ==== Sys2Proof/Safety.lean ====
section
/-! DEFINITION. What counts as a safe run, and the words the statements are written in: the bytes of the machine by memory, which
cells a store touches, what a bus read and an instruction leave alone, the invariant of a run, and the tables of the spec that
are checked against the model (the illegal bytes, the regular costs, the sample words). -/

namespace Sys2Proof.Machine

/-- A byte memory of the machine (20_memory.md R80, R81; 10_state.md R34, R37 to R40, R43, R46). -/
inductive Space where
  | ram | prgRam | chrRam | prgRom | chrRom | paletteTable
  | nametable | paletteRam | oam | secondaryOam | lineSprites | frame | doneFrame
  deriving DecidableEq, Repr

/-- One byte of one memory. -/
def State.byteAt (s : State) (m : Space) (a : Nat) : Byte :=
  match m with
  | .ram => s.ram.read a
  | .prgRam => s.prgRam.read a
  | .chrRam => s.chrRam.read a
  | .prgRom => s.cfg.prgRom.read a
  | .chrRom => s.cfg.chrRom.read a
  | .paletteTable => s.cfg.ntscPalette.read a
  | .nametable => s.ppu.nt.read a
  | .paletteRam => s.ppu.palette.read a
  | .oam => s.ppu.oam.read a
  | .secondaryOam => s.ppu.secOam.read a
  | .lineSprites => s.ppu.lineSpr.read a
  | .frame => s.ppu.fb.read a
  | .doneFrame => s.ppu.doneFb.read a

/-- The cell `(m, a)` is the one a PPUDATA write with PPU address `pa` stores to (20_memory.md R101). -/
def ppuCell (pa : BitVec 14) (s : State) (m : Space) (a : Nat) : Bool :=
  if pa.toNat < 0x2000 then s.cfg.chrIsRam && m == .chrRam && a == chrOffset s.cfg s.mapper pa
  else if pa.toNat < 0x3F00 then m == .nametable && a == ntIndex s.mirroring pa
  else m == .paletteRam && a == palIndex pa

/-- The cell `(m, a)` is one that `CpuWrite` to the address `ea` stores to, in state `s` (20_memory.md R81 to R92). -/
def writtenCell (ea : Addr) (s : State) (m : Space) (a : Nat) : Bool :=
  match cpuTarget ea with
  | .ram i => m == .ram && a == i
  | .ppuReg r =>
    if r = 4 then m == .oam && a == s.ppu.oamAddr.toNat
    else if r = 7 then ppuCell s.ppu.vAddr s m a
    else false
  | .oamDma => m == .oam && decide (a < 256)
  | .cartRam =>
    match prgRamIndex s.cfg s.mapper ea with
    | some i => m == .prgRam && a == i
    | none => false
  | .pulse _ _ | .apuStatus | .controller | .frameCounter | .unmapped | .cartRom => false

/-- The cell `(m, a)` is the stack byte `k` pushes below the stack pointer of `s` (00_scope.md R13; 41_transfer_stack.md R220). -/
def stackCell (k : Nat) (s : State) (m : Space) (a : Nat) : Bool :=
  m == .ram && a == 0x100 + (s.cpu.sp - BitVec.ofNat 8 k).toNat

/-- The cell `(m, a)` is one that the instruction stores to when it runs in state `s`: the cell of its destination operand, or
its stack slots. The address of a store is the effective address; a read-modify-write stores after its operand is read. -/
def storedCell (i : Instr) (s : State) (m : Space) (a : Nat) : Bool :=
  match i.mnemonic with
  | .sta | .stx | .sty => writtenCell (address i.operand s).cpu.ea (address i.operand s) m a
  | .asl | .lsr | .rol | .ror | .inc | .dec =>
    i.operand != .acc && writtenCell (operandRead i.operand s).2.cpu.ea (operandRead i.operand s).2 m a
  | .pha | .php => stackCell 0 s m a
  | .jsr => stackCell 0 s m a || stackCell 1 s m a
  | .brk => stackCell 0 s m a || stackCell 1 s m a || stackCell 2 s m a
  | .lda | .ldx | .ldy | .tax | .tay | .txa | .tya | .tsx | .txs | .pla | .plp | .adc | .sbc | .and | .ora | .eor | .cmp | .cpx
  | .cpy | .bit | .inx | .iny | .dex | .dey | .jmp | .rts | .bpl | .bmi | .bvc | .bvs | .bcc | .bcs | .bne | .beq | .rti | .clc
  | .sec | .cli | .sei | .clv | .cld | .sed | .nop => false

/-- `s` with the fields a bus read may change taken from `t`: PPUSTATUS and PPUDATA side effects, the controller shift register,
the count of free values; a pending NMI can only be cancelled (20_memory.md R108; 50_ppu.md R327, R335, R354). -/
def State.afterReads (s t : State) : State :=
  { s with
    cpu := { s.cpu with nmiPending := s.cpu.nmiPending && t.cpu.nmiPending },
    ppu := { s.ppu with
      vblank := s.ppu.vblank && t.ppu.vblank, w := s.ppu.w && t.ppu.w, v := t.ppu.v,
      readBuffer := t.ppu.readBuffer, suppressVbl := s.ppu.suppressVbl || t.ppu.suppressVbl },
    sys := { s.sys with ctrlShift := t.sys.ctrlShift },
    draws := t.draws }

/-- `s` with the fields a bus read or a bus write may change taken from `t`. Kept from `s`: the cartridge image and
configuration, the CPU's registers, the fault record, the phase, the clock, the buttons, the PPU's position, status flags other
than vblank, sprite evaluation, latched sprites and framebuffers (20_memory.md R81 to R92, R109; 50_ppu.md R325). -/
def State.afterBus (s t : State) : State :=
  { t with
    cfg := s.cfg,
    cpu := { s.cpu with
      nmiPending := s.cpu.nmiPending && t.cpu.nmiPending, dmaPending := s.cpu.dmaPending || t.cpu.dmaPending },
    ppu := { s.ppu with
      ctrl := t.ppu.ctrl, mask := t.ppu.mask, vblank := s.ppu.vblank && t.ppu.vblank, t := t.ppu.t, v := t.ppu.v,
      x := t.ppu.x, w := t.ppu.w, oamAddr := t.ppu.oamAddr, readBuffer := t.ppu.readBuffer, nt := t.ppu.nt,
      palette := t.ppu.palette, oam := t.ppu.oam, suppressVbl := s.ppu.suppressVbl || t.ppu.suppressVbl },
    sys := { s.sys with ctrlShift := t.sys.ctrlShift, ctrlStrobe := t.sys.ctrlStrobe } }

/-- `t` with the registers an instruction works on (A, X, Y, SP, PC, the flags, and the countdown, mode, effective address and
page-crossed latch) put back to those of `c`. -/
def State.withRegisters (t : State) (c : Cpu) : State :=
  { t with cpu := { t.cpu with
      a := c.a, x := c.x, y := c.y, sp := c.sp, pc := c.pc, p := c.p, countdown := c.countdown, mode := c.mode, ea := c.ea,
      pageCrossed := c.pageCrossed } }

/-- The mnemonics that store to memory or to a device in some form (files 40, 41, 43, 44). -/
def storesSomewhere : Mnemonic → Bool
  | .sta | .stx | .sty | .asl | .lsr | .rol | .ror | .inc | .dec | .pha | .php | .jsr | .brk => true
  | .lda | .ldx | .ldy | .tax | .tay | .txa | .tya | .tsx | .txs | .pla | .plp | .adc | .sbc | .and | .ora | .eor | .cmp | .cpx
  | .cpy | .bit | .inx | .iny | .dex | .dey | .jmp | .rts | .bpl | .bmi | .bvc | .bvs | .bcc | .bcs | .bne | .beq | .rti | .clc
  | .sec | .cli | .sei | .clv | .cld | .sed | .nop => false

/-- An instruction form that makes no bus access beyond the fetch of its own bytes: the register, flag and branch instructions,
JMP absolute, the immediate and the accumulator forms (30_encoding.md R182 to R184, R194; files 41, 43, 44, 45). -/
def makesNoDataAccess (i : Instr) : Bool :=
  match i.mnemonic with
  | .tax | .tay | .txa | .tya | .tsx | .txs | .inx | .iny | .dex | .dey | .clc | .sec | .cli | .sei | .clv | .cld | .sed | .nop
  | .bpl | .bmi | .bvc | .bvs | .bcc | .bcs | .bne | .beq => true
  | .jmp => i.operand.mode == .abs
  | .lda | .ldx | .ldy | .adc | .sbc | .and | .ora | .eor | .cmp | .cpx | .cpy | .bit => i.operand.mode == .imm
  | .asl | .lsr | .rol | .ror | .inc | .dec => i.operand.mode == .acc
  | .sta | .stx | .sty | .pha | .php | .pla | .plp | .jsr | .rts | .brk | .rti => false

/-- The base cost of a mnemonic in a mode, by the regular pattern of 30_encoding.md R196: an independent reading of the "cycles"
column of R178. -/
def regularCost (m : Mnemonic) (mode : AddrMode) : Nat :=
  match m with
  | .lda | .ldx | .ldy | .adc | .sbc | .and | .ora | .eor | .cmp | .cpx | .cpy | .bit =>
    match mode with
    | .imm => 2
    | .zp => 3
    | .indx => 6
    | .indy => 5
    | .imp | .acc | .zpx | .zpy | .abs | .absx | .absy | .ind | .rel => 4
  | .sta | .stx | .sty =>
    match mode with
    | .zp => 3
    | .zpx | .zpy | .abs => 4
    | .absx | .absy => 5
    | .imp | .acc | .imm | .ind | .indx | .indy | .rel => 6
  | .asl | .lsr | .rol | .ror | .inc | .dec =>
    match mode with
    | .acc => 2
    | .zp => 5
    | .absx => 7
    | .imp | .imm | .zpx | .zpy | .abs | .absy | .ind | .indx | .indy | .rel => 6
  | .pha | .php => 3
  | .pla | .plp => 4
  | .jsr | .rts | .rti => 6
  | .brk => 7
  | .jmp => if mode = .ind then 5 else 3
  | .tax | .tay | .txa | .tya | .tsx | .txs | .inx | .iny | .dex | .dey | .clc | .sec | .cli | .sei | .clv | .cld | .sed | .nop
  | .bpl | .bmi | .bvc | .bvs | .bcc | .bcs | .bne | .beq => 2

/-- The 23 opcodes marked `+p`, as 30_encoding.md R195 lists them in full. -/
def pageCrossOpcodes : List Byte :=
  [0xBD, 0xB9, 0xB1, 0xBE, 0xBC, 0x7D, 0x79, 0x71, 0xFD, 0xF9, 0xF1, 0x3D, 0x39, 0x31, 0x1D, 0x19, 0x11,
   0x5D, 0x59, 0x51, 0xDD, 0xD9, 0xD1]

/-- The cost of an instruction that is no branch: base plus one on a page crossing of a `+p` row (30_encoding.md R195, R196). -/
def expectedCost (i : Instr) (crossed : Bool) : Nat :=
  regularCost i.mnemonic i.operand.mode + if crossed = true ∧ i.opcode ∈ pageCrossOpcodes then 1 else 0

/-- The 105 illegal opcode bytes, as 30_encoding.md R177 lists them. -/
def illegalBytes : List Byte :=
  [0x02, 0x03, 0x04, 0x07, 0x0B, 0x0C, 0x0F, 0x12, 0x13, 0x14, 0x17, 0x1A, 0x1B, 0x1C, 0x1F, 0x22, 0x23, 0x27, 0x2B, 0x2F, 0x32,
   0x33, 0x34, 0x37, 0x3A, 0x3B, 0x3C, 0x3F, 0x42, 0x43, 0x44, 0x47, 0x4B, 0x4F, 0x52, 0x53, 0x54, 0x57, 0x5A, 0x5B, 0x5C, 0x5F,
   0x62, 0x63, 0x64, 0x67, 0x6B, 0x6F, 0x72, 0x73, 0x74, 0x77, 0x7A, 0x7B, 0x7C, 0x7F, 0x80, 0x82, 0x83, 0x87, 0x89, 0x8B, 0x8F,
   0x92, 0x93, 0x97, 0x9B, 0x9C, 0x9E, 0x9F, 0xA3, 0xA7, 0xAB, 0xAF, 0xB2, 0xB3, 0xB7, 0xBB, 0xBF, 0xC2, 0xC3, 0xC7, 0xCB, 0xCF,
   0xD2, 0xD3, 0xD4, 0xD7, 0xDA, 0xDB, 0xDC, 0xDF, 0xE2, 0xE3, 0xE7, 0xEB, 0xEF, 0xF2, 0xF3, 0xF4, 0xF7, 0xFA, 0xFB, 0xFC, 0xFF]

/-- The opcode map of 30_encoding.md R176 as it is printed: one row per high nibble, one entry per low nibble. -/
def opcodeGridRow (high : Nat) : List (Option (Mnemonic × AddrMode)) :=
  match high with
  | 0 =>
    [some (.brk, .imp), some (.ora, .indx), none, none, none, some (.ora, .zp), some (.asl, .zp), none, some (.php, .imp),
      some (.ora, .imm), some (.asl, .acc), none, none, some (.ora, .abs), some (.asl, .abs), none]
  | 1 =>
    [some (.bpl, .rel), some (.ora, .indy), none, none, none, some (.ora, .zpx), some (.asl, .zpx), none, some (.clc, .imp),
      some (.ora, .absy), none, none, none, some (.ora, .absx), some (.asl, .absx), none]
  | 2 =>
    [some (.jsr, .abs), some (.and, .indx), none, none, some (.bit, .zp), some (.and, .zp), some (.rol, .zp), none,
      some (.plp, .imp), some (.and, .imm), some (.rol, .acc), none, some (.bit, .abs), some (.and, .abs), some (.rol, .abs),
      none]
  | 3 =>
    [some (.bmi, .rel), some (.and, .indy), none, none, none, some (.and, .zpx), some (.rol, .zpx), none, some (.sec, .imp),
      some (.and, .absy), none, none, none, some (.and, .absx), some (.rol, .absx), none]
  | 4 =>
    [some (.rti, .imp), some (.eor, .indx), none, none, none, some (.eor, .zp), some (.lsr, .zp), none, some (.pha, .imp),
      some (.eor, .imm), some (.lsr, .acc), none, some (.jmp, .abs), some (.eor, .abs), some (.lsr, .abs), none]
  | 5 =>
    [some (.bvc, .rel), some (.eor, .indy), none, none, none, some (.eor, .zpx), some (.lsr, .zpx), none, some (.cli, .imp),
      some (.eor, .absy), none, none, none, some (.eor, .absx), some (.lsr, .absx), none]
  | 6 =>
    [some (.rts, .imp), some (.adc, .indx), none, none, none, some (.adc, .zp), some (.ror, .zp), none, some (.pla, .imp),
      some (.adc, .imm), some (.ror, .acc), none, some (.jmp, .ind), some (.adc, .abs), some (.ror, .abs), none]
  | 7 =>
    [some (.bvs, .rel), some (.adc, .indy), none, none, none, some (.adc, .zpx), some (.ror, .zpx), none, some (.sei, .imp),
      some (.adc, .absy), none, none, none, some (.adc, .absx), some (.ror, .absx), none]
  | 8 =>
    [none, some (.sta, .indx), none, none, some (.sty, .zp), some (.sta, .zp), some (.stx, .zp), none, some (.dey, .imp),
      none, some (.txa, .imp), none, some (.sty, .abs), some (.sta, .abs), some (.stx, .abs), none]
  | 9 =>
    [some (.bcc, .rel), some (.sta, .indy), none, none, some (.sty, .zpx), some (.sta, .zpx), some (.stx, .zpy), none,
      some (.tya, .imp), some (.sta, .absy), some (.txs, .imp), none, none, some (.sta, .absx), none, none]
  | 10 =>
    [some (.ldy, .imm), some (.lda, .indx), some (.ldx, .imm), none, some (.ldy, .zp), some (.lda, .zp), some (.ldx, .zp),
      none, some (.tay, .imp), some (.lda, .imm), some (.tax, .imp), none, some (.ldy, .abs), some (.lda, .abs),
      some (.ldx, .abs), none]
  | 11 =>
    [some (.bcs, .rel), some (.lda, .indy), none, none, some (.ldy, .zpx), some (.lda, .zpx), some (.ldx, .zpy), none,
      some (.clv, .imp), some (.lda, .absy), some (.tsx, .imp), none, some (.ldy, .absx), some (.lda, .absx),
      some (.ldx, .absy), none]
  | 12 =>
    [some (.cpy, .imm), some (.cmp, .indx), none, none, some (.cpy, .zp), some (.cmp, .zp), some (.dec, .zp), none,
      some (.iny, .imp), some (.cmp, .imm), some (.dex, .imp), none, some (.cpy, .abs), some (.cmp, .abs), some (.dec, .abs),
      none]
  | 13 =>
    [some (.bne, .rel), some (.cmp, .indy), none, none, none, some (.cmp, .zpx), some (.dec, .zpx), none, some (.cld, .imp),
      some (.cmp, .absy), none, none, none, some (.cmp, .absx), some (.dec, .absx), none]
  | 14 =>
    [some (.cpx, .imm), some (.sbc, .indx), none, none, some (.cpx, .zp), some (.sbc, .zp), some (.inc, .zp), none,
      some (.inx, .imp), some (.sbc, .imm), some (.nop, .imp), none, some (.cpx, .abs), some (.sbc, .abs), some (.inc, .abs),
      none]
  | _ =>
    [some (.beq, .rel), some (.sbc, .indy), none, none, none, some (.sbc, .zpx), some (.inc, .zpx), none, some (.sed, .imp),
      some (.sbc, .absy), none, none, none, some (.sbc, .absx), some (.inc, .absx), none]

/-- The entry of an opcode byte in the opcode map (30_encoding.md R176); none where the map has a dash. -/
def opcodeGrid (op : Byte) : Option (Mnemonic × AddrMode) := (opcodeGridRow (op.toNat / 16)).getD (op.toNat % 16) none

/-- The one data read of an instruction: the immediate byte (30_encoding.md R184), `A` in Accumulator mode (R183), else
`CpuRead(cpu.ea)`, all after the address computation (40_load_store.md R201; 43_shift_incdec.md R260). -/
def dataRead (o : Operand) (s : State) : Byte × State :=
  match o with
  | .imm v => (v, address o s)
  | .acc => (s.cpu.a, address o s)
  | .imp | .zp _ | .zpx _ | .zpy _ | .abs _ | .absx _ | .absy _ | .ind _ | .indx _ | .indy _ | .rel _ =>
    cpuRead (address o s).cpu.ea (address o s)

/-- The flags after `SetZN(v)` (00_scope.md R14), with N as "v is at least 128". -/
def Flags.znOf (p : Flags) (v : Byte) : Flags := { p with z := decide (v = 0), n := decide (128 ≤ v.toNat) }

/-- `t` at the end of an instruction of `s` that is no control transfer: `PC` past the instruction, and its cost (40_load_store.md
R200; 55_system_tick.md R455). `t` differs from the machine before in what the instruction did. -/
def State.finished (t : State) (i : Instr) (s : State) : State :=
  { t with cpu := { t.cpu with
      pc := s.cpu.pc + BitVec.ofNat 16 i.length,
      countdown := expectedCost i (address i.operand s).cpu.pageCrossed } }

/-- A Bool as 0 or 1. -/
def bitNat (b : Bool) : Nat := if b then 1 else 0

/-- The flag byte `PackP(b)` as a number: N V 1 b D I Z C (00_scope.md R14). -/
def packedFlags (p : Flags) (b : Bool) : Nat :=
  128 * bitNat p.n + 64 * bitNat p.v + 32 + 16 * bitNat b + 8 * bitNat p.d + 4 * bitNat p.i + 2 * bitNat p.z + bitNat p.c

/-- The flags `UnpackP(v)` leaves: N V D I Z C from bits 7 6 3 2 1 0, B as before (00_scope.md R14). -/
def unpackedFlags (p : Flags) (v : Byte) : Flags :=
  { c := decide (v.toNat % 2 = 1), z := decide (v.toNat / 2 % 2 = 1), i := decide (v.toNat / 4 % 2 = 1),
    d := decide (v.toNat / 8 % 2 = 1), b := p.b, v := decide (v.toNat / 64 % 2 = 1), n := decide (v.toNat / 128 % 2 = 1) }

/-- The RAM cell of the stack byte at `SP + k`, modulo 256 (00_scope.md R13). -/
def stackIndex (s : State) (k : Int) : Nat := 256 + ((s.cpu.sp.toNat + k) % 256).toNat

/-- The 16-bit word of two bytes (20_memory.md R105). -/
def wordOf (hi lo : Byte) : Addr := BitVec.ofNat 16 (256 * hi.toNat + lo.toNat)

/-- The n-th read of the controller port in a row, from 0: its value. -/
def controllerRead : Nat → State → Byte
  | 0, s => (cpuRead 0x4016 s).1
  | n + 1, s => controllerRead n (cpuRead 0x4016 s).2

/-- The pre-render line's number, `LINES_PER_FRAME - 1` (50_ppu.md R322), of the machine. -/
def State.lastLine (s : State) : Nat := linesPerFrame s.cfg.header.tv - 1

/-- Where sprite evaluation can stand, by its phase (50_ppu.md R370: "ev_m = 0 and ev_found < 8 here", "ev_m in 1..3"). -/
def Ppu.evaluationOk (p : Ppu) : Prop :=
  match p.evPhase with
  | .scan => p.evFound < 8 ∧ p.evM = 0
  | .copy => p.evFound < 8 ∧ p.evM ≠ 0
  | .ovfScan => p.evFound = 8
  | .done => p.evFound ≤ 8

/-- A pulse channel's sequencer is a rotation of its duty pattern (51_apu.md R402), or still the 0 of power-up
(70_reset_and_hazards.md R525). -/
def Pulse.seqOk (ch : Pulse) : Prop := ch.seq = 0 ∨ ∃ k < 8, ch.seq = (dutyPattern ch.duty).rotateLeft k

/-- The invariant of a run: what holds in every state a tick can reach from `power_up` on a well-formed cartridge. -/
structure State.Inv (s : State) : Prop where
  ramFits : Memory.fits 2048 s.ram = true
  prgRamFits : Memory.fits s.cfg.prgRamSize s.prgRam = true
  chrRamFits : Memory.fits 8192 s.chrRam = true
  nametableFits : Memory.fits 4096 s.ppu.nt = true
  paletteFits : Memory.fits 32 s.ppu.palette = true
  oamFits : Memory.fits 256 s.ppu.oam = true
  secondaryFits : Memory.fits 32 s.ppu.secOam = true
  lineSpritesFit : Memory.fits 32 s.ppu.lineSpr = true
  frameFits : Memory.fits 245760 s.ppu.fb = true
  doneFrameFits : Memory.fits 245760 s.ppu.doneFb = true
  dotLegal : s.ppu.dot ≤ 340
  lineLegal : s.ppu.scanline ≤ s.lastLine
  spriteIndex : s.ppu.evN ≤ 63
  evaluation : s.ppu.evaluationOk
  lineCount : s.ppu.lineCount ≤ 8
  vblankWindow : s.ppu.vblank = true →
    (s.ppu.scanline = 241 ∧ 2 ≤ s.ppu.dot) ∨ (241 < s.ppu.scanline ∧ s.ppu.scanline < s.lastLine) ∨
      (s.ppu.scanline = s.lastLine ∧ s.ppu.dot ≤ 1)
  suppression : s.ppu.suppressVbl = true → s.ppu.scanline = 241 ∧ s.ppu.dot = 1
  sequencer : s.apu.fsCycle < frameWrap s.cfg.header.tv s.apu.fsMode
  pulse1 : s.apu.p1.seqOk
  pulse2 : s.apu.p2.seqOk
  serialCount : s.mapper.mmc1Count.toNat ≤ 4
  mirroring : s.mapper.mirroring = s.mirroring
  countdown : s.cpu.countdown ≤ 512
  faulted : s.sys.phase = .faulted ↔ s.cpu.fault.isSome = true

/-- The machine can run: it is powered up on a supported mapper (21_mappers.md R122; 55_system_tick.md R471). -/
def State.runnable (s : State) : Prop := s.sys.phase = .running ∧ s.cfg.header.mapper ≠ .unsupported

/-- `n` steps. -/
def runSteps : Nat → State → Result
  | 0, s => .next s
  | n + 1, s =>
    match step s with
    | .next t => runSteps n t
    | .fault r => .fault r
    | .refused r => .refused r

/-- `n` CPU ticks in a row. -/
def runCpuTicks : Nat → State → Result
  | 0, s => .next s
  | n + 1, s =>
    match cpuTick s with
    | .next t => runCpuTicks n t
    | .fault r => .fault r
    | .refused r => .refused r

/-- A safe run: `n` steps from `s` end in a next state whose machine is not faulted. -/
def SafeRun (n : Nat) (s : State) : Prop := ∃ t, runSteps n s = .next t ∧ t.sys.phase ≠ .faulted

end Sys2Proof.Machine
end

