-- ==== Sys2Proof/Certificates/Slice0/Obligations.lean ====
section
/-! DEFINITION. The statements for the provers: what the numbered rules of the spec say of the machine, one definition each. -/

section

open Sys2Proof Sys2Proof.Machine

/-! Encoding. -/

/-- Decoding undoes encoding, for every well-formed instruction with every operand its encoding admits, whatever bytes follow
(30_encoding.md R170 to R178). -/
def Obligations.DecodeOfEncode : Prop :=
  ∀ (i : Instr) (rest : List Byte), i.wellFormed = true → decode (encode i ++ rest) = .ok (i, rest)

/-- Whatever decodes is the encoding of the well-formed instruction it decodes to, followed by the bytes left over: each byte
string has one meaning (30_encoding.md R170, R173, R178). -/
def Obligations.EncodeOfDecode : Prop :=
  ∀ (bytes : List Byte) (i : Instr) (rest : List Byte),
    decode bytes = .ok (i, rest) → i.wellFormed = true ∧ bytes = encode i ++ rest

/-- 30_encoding.md R177: exactly the 105 listed opcode bytes are illegal, whatever bytes follow. -/
def Obligations.IllegalBytesRejected : Prop :=
  illegalBytes.length = 105 ∧ illegalBytes.Nodup ∧
  ∀ (op : Byte) (rest : List Byte), op ∈ illegalBytes ↔ decode (op :: rest) = .error (.illegalOpcode op)

/-- 30_encoding.md R172: the instruction length of each addressing mode, and that each opcode byte has at most one row. A decoded
instruction leaves over exactly the bytes beyond that length. -/
def Obligations.ModeLengths : Prop :=
  (AddrMode.acc.length = 1 ∧ AddrMode.abs.length = 3 ∧ AddrMode.absx.length = 3 ∧ AddrMode.absy.length = 3 ∧
    AddrMode.imm.length = 2 ∧ AddrMode.imp.length = 1 ∧ AddrMode.ind.length = 3 ∧ AddrMode.indx.length = 2 ∧
    AddrMode.indy.length = 2 ∧ AddrMode.rel.length = 2 ∧ AddrMode.zp.length = 2 ∧ AddrMode.zpx.length = 2 ∧
    AddrMode.zpy.length = 2) ∧
  opcodeTable.length = 151 ∧ (opcodeTable.map OpcodeRow.opcode).Nodup ∧
  ∀ (op : Byte) (rest : List Byte) (i : Instr) (tail : List Byte), decode (op :: rest) = .ok (i, tail) →
    rest.length + 1 = i.operand.mode.length + tail.length ∧ opcodeLength op = some i.operand.mode.length

/-- 30_encoding.md R176 and R178: every one of the 256 opcode bytes selects exactly the mnemonic and the addressing mode of its entry in
the printed opcode map, or nothing where the map has a dash; and the encoder gives each instruction the byte of its entry. -/
def Obligations.OpcodeGrid : Prop :=
  (∀ op : Byte, (lookupOpcode op).map (fun r => (r.mnemonic, r.mode)) = opcodeGrid op) ∧
  (∀ (op b1 b2 : Byte) (i : Instr) (rest : List Byte), decode [op, b1, b2] = .ok (i, rest) →
    opcodeGrid op = some (i.mnemonic, i.operand.mode)) ∧
  (∀ i : Instr, opcodeGrid i.opcode = some (i.mnemonic, i.operand.mode))

/-- Words written out from the encoding tables of files 40 to 45, one or two per family, decode to their instructions. -/
def Obligations.SampleWordsDecode : Prop :=
  decode [0xA9, 0x10] = .ok (.ldaImm 0x10, []) ∧
  decode [0xB1, 0x20, 0xEA] = .ok (.ldaIndY 0x20, [0xEA]) ∧
  decode [0x8D, 0x00, 0x02] = .ok (.staAbs 0x0200, []) ∧
  decode [0x96, 0x33] = .ok (.stxZpY 0x33, []) ∧
  decode [0xAA] = .ok (.tax, []) ∧
  decode [0x08] = .ok (.php, []) ∧
  decode [0x7D, 0xF0, 0x12] = .ok (.adcAbsX 0x12F0, []) ∧
  decode [0xE1, 0x44] = .ok (.sbcIndX 0x44, []) ∧
  decode [0x2C, 0x02, 0x20] = .ok (.bitAbs 0x2002, []) ∧
  decode [0x6A] = .ok (.rorAcc, []) ∧
  decode [0xFE, 0x34, 0x12] = .ok (.incAbsX 0x1234, []) ∧
  decode [0x6C, 0xFF, 0x02] = .ok (.jmpInd 0x02FF, []) ∧
  decode [0x20, 0x10, 0x80] = .ok (.jsrAbs 0x8010, []) ∧
  decode [0xD0, 0xF9] = .ok (.bne (-7), []) ∧
  decode [0x00] = .ok (.brk, []) ∧
  decode [0x78] = .ok (.sei, []) ∧
  decode [0xEA] = .ok (.nop, [])

/-- How each operand is built from the bytes after the opcode: an immediate or a zero-page address is byte 1, a 16-bit address has
byte 1 low and byte 2 high, a branch offset is byte 1 signed (30_encoding.md R173). -/
def Obligations.OperandAssembly : Prop :=
  ∀ (op b1 b2 : Byte) (rest : List Byte) (i : Instr) (tail : List Byte), decode (op :: b1 :: b2 :: rest) = .ok (i, tail) →
    match i.operand with
    | .imp | .acc => tail = b1 :: b2 :: rest
    | .imm b | .zp b | .zpx b | .zpy b | .indx b | .indy b => b = b1 ∧ tail = b2 :: rest
    | .abs a | .absx a | .absy a | .ind a => a.toNat = 256 * b2.toNat + b1.toNat ∧ tail = rest
    | .rel d => d = (if b1.toNat < 128 then (b1.toNat : Int) else b1.toNat - 256) ∧ tail = b2 :: rest

/-! Addressing modes and costs. -/

/-- The address computations that read no pointer: the effective address, the page-crossed flag and the mode they latch; nothing
else changes (30_encoding.md R182 to R190, R194). An Implied instruction works on registers and the stack page only (R182), an
Accumulator operand is read and written in A (R183), an Immediate operand is the byte of the instruction, not read again (R184).
Zeropage-Y is used by LDX and STX only, Relative by the eight branches only. -/
def Obligations.AddressModes : Prop :=
  ∀ (s : State) (b1 b2 : Byte) (d : Int),
    (∃ ea, address .imp s = s.latch .imp ea false) ∧
    (∀ (i : Instr) (t : State), i.operand = .imp → exec i s = .next t →
      t.withRegisters s.cpu = { s with ram := t.ram } ∧ ∀ k, k < 256 ∨ 512 ≤ k → t.ram.read k = s.ram.read k) ∧
    (∃ ea, address .acc s = s.latch .acc ea false) ∧
    operandRead .acc s = (s.cpu.a, address .acc s) ∧
    operandWrite .acc b1 s = { s with cpu := { s.cpu with a := b1 } } ∧
    (∃ ea, address (.imm b1) s = s.latch .imm ea false ∧ ea.toNat = (s.cpu.pc.toNat + 1) % 65536) ∧
    operandRead (.imm b1) s = (b1, address (.imm b1) s) ∧
    (∃ ea, address (.zp b1) s = s.latch .zp ea false ∧ ea.toNat = b1.toNat) ∧
    (∃ ea, address (.zpx b1) s = s.latch .zpx ea false ∧ ea.toNat = (b1.toNat + s.cpu.x.toNat) % 256) ∧
    (∃ ea, address (.zpy b1) s = s.latch .zpy ea false ∧ ea.toNat = (b1.toNat + s.cpu.y.toNat) % 256) ∧
    (∃ ea, address (.abs (operandWord b1 b2)) s = s.latch .abs ea false ∧ ea.toNat = 256 * b2.toNat + b1.toNat) ∧
    (∃ ea, address (.absx (operandWord b1 b2)) s = s.latch .absx ea (decide (b2.toNat ≠ ea.toNat / 256)) ∧
      ea.toNat = (256 * b2.toNat + b1.toNat + s.cpu.x.toNat) % 65536) ∧
    (∃ ea, address (.absy (operandWord b1 b2)) s = s.latch .absy ea (decide (b2.toNat ≠ ea.toNat / 256)) ∧
      ea.toNat = (256 * b2.toNat + b1.toNat + s.cpu.y.toNat) % 65536) ∧
    (∃ ea, address (.rel d) s =
        s.latch .rel ea (decide ((s.cpu.pc.toNat + 2) % 65536 / 256 ≠ ea.toNat / 256)) ∧
      (ea.toNat : Int) = (s.cpu.pc.toNat + 2 + d) % 65536) ∧
    (∀ i : Instr, (i.operand.mode = .zpy → i.mnemonic = .ldx ∨ i.mnemonic = .stx) ∧
      (i.operand.mode = .rel ↔ i.mnemonic ∈ [.bpl, .bmi, .bvc, .bvs, .bcc, .bcs, .bne, .beq]))

/-- The address computations through a pointer: where each pointer byte is read, in which order, and the address they give
(30_encoding.md R191 to R193). Indirect is used by JMP only. -/
def Obligations.PointerModes : Prop :=
  ∀ (s : State) (b1 b2 : Byte),
    (∃ hiAddr ea, hiAddr.toNat = 256 * b2.toNat + (b1.toNat + 1) % 256 ∧
      let lo := cpuRead (operandWord b1 b2) s
      let hi := cpuRead hiAddr lo.2
      address (.ind (operandWord b1 b2)) s = hi.2.latch .ind ea false ∧ ea.toNat = 256 * hi.1.toNat + lo.1.toNat) ∧
    (∃ loAddr hiAddr ea, loAddr.toNat = (b1.toNat + s.cpu.x.toNat) % 256 ∧
      hiAddr.toNat = (b1.toNat + s.cpu.x.toNat + 1) % 256 ∧
      let lo := cpuRead loAddr s
      let hi := cpuRead hiAddr lo.2
      address (.indx b1) s = hi.2.latch .indx ea false ∧ ea.toNat = 256 * hi.1.toNat + lo.1.toNat) ∧
    (∃ loAddr hiAddr ea, loAddr.toNat = b1.toNat ∧ hiAddr.toNat = (b1.toNat + 1) % 256 ∧
      let lo := cpuRead loAddr s
      let hi := cpuRead hiAddr lo.2
      address (.indy b1) s = hi.2.latch .indy ea (decide (hi.1.toNat ≠ ea.toNat / 256)) ∧
      ea.toNat = (256 * hi.1.toNat + lo.1.toNat + s.cpu.y.toNat) % 65536) ∧
    (∀ i : Instr, i.operand.mode = .ind → i.mnemonic = .jmp)

/-! Frames: what an instruction leaves alone. -/

/-- A register changes only when the instruction's rule names it (files 40 to 45): A for loads into A, transfers to A, PLA,
arithmetic and logic, and the accumulator forms; X, Y and SP likewise. -/
def Obligations.RegisterFrame : Prop :=
  ∀ (i : Instr) (s t : State), exec i s = .next t →
    (i.mnemonic ∉ [.lda, .txa, .tya, .pla, .adc, .sbc, .and, .ora, .eor] → i.operand ≠ .acc → t.cpu.a = s.cpu.a) ∧
    (i.mnemonic ∉ [.ldx, .tax, .tsx, .inx, .dex] → t.cpu.x = s.cpu.x) ∧
    (i.mnemonic ∉ [.ldy, .tay, .iny, .dey] → t.cpu.y = s.cpu.y) ∧
    (i.mnemonic ∉ [.txs, .pha, .php, .pla, .plp, .jsr, .rts, .brk, .rti] → t.cpu.sp = s.cpu.sp)

/-- 40_load_store.md R200, "a flag not named is unchanged": each flag changes only in the instructions whose rule names it. -/
def Obligations.FlagFrame : Prop :=
  ∀ (i : Instr) (s t : State), exec i s = .next t →
    (i.mnemonic ∉ [.adc, .sbc, .cmp, .cpx, .cpy, .asl, .lsr, .rol, .ror, .clc, .sec, .plp, .rti] → t.cpu.p.c = s.cpu.p.c) ∧
    (i.mnemonic ∉ [.lda, .ldx, .ldy, .tax, .tay, .txa, .tya, .tsx, .pla, .adc, .sbc, .and, .ora, .eor, .cmp, .cpx, .cpy, .bit,
        .asl, .lsr, .rol, .ror, .inc, .dec, .inx, .iny, .dex, .dey, .plp, .rti] →
      t.cpu.p.z = s.cpu.p.z ∧ t.cpu.p.n = s.cpu.p.n) ∧
    (i.mnemonic ∉ [.cli, .sei, .plp, .rti, .brk] → t.cpu.p.i = s.cpu.p.i) ∧
    (i.mnemonic ∉ [.cld, .sed, .plp, .rti] → t.cpu.p.d = s.cpu.p.d) ∧
    (i.mnemonic ∉ [.adc, .sbc, .bit, .clv, .plp, .rti] → t.cpu.p.v = s.cpu.p.v) ∧
    (i.mnemonic ≠ .brk → t.cpu.p.b = s.cpu.p.b)

/-- Beyond the registers: every instruction leaves alone what no bus access can change (the image and configuration, the fault
record, the phase, the clock, the buttons, the PPU's position, evaluation, latched sprites and frames; an NMI is never raised);
one that stores nothing changes only what bus reads can; one that makes no data access changes nothing (20_memory.md R81 to R92,
R108; 60_exceptions.md R481; files 40 to 45). -/
def Obligations.DeviceFrame : Prop :=
  ∀ (i : Instr) (s t : State), exec i s = .next t →
    t.withRegisters s.cpu = s.afterBus t ∧
    (storesSomewhere i.mnemonic = false ∨ i.operand = .acc → t.withRegisters s.cpu = s.afterReads t) ∧
    (makesNoDataAccess i = true → t.withRegisters s.cpu = s)

/-- Every byte of every memory is unchanged but the cells the instruction stores to: the cell of its effective address, its
stack slots, all of OAM for a store to 0x4014 (20_memory.md R83, R84, R92, R101; 40_load_store.md R201; 43_shift_incdec.md R261;
41_transfer_stack.md R220). -/
def Obligations.StoreFrame : Prop :=
  ∀ (i : Instr) (s t : State) (m : Space) (a : Nat), exec i s = .next t →
    storedCell i s m a = false → t.byteAt m a = s.byteAt m a

/-! Results: every instruction answers a next state, the one its rule gives. -/

/-- 40_load_store.md R202 to R207. A load makes one data read, which may have a device's side effect, and sets its register, Z and N;
a store makes one data write, of the register, at the effective address, and sets no flag. -/
def Obligations.LoadsAndStores : Prop :=
  ∀ (i : Instr) (s : State),
    let r := dataRead i.operand s
    let p := s.cpu.p.znOf r.1
    let s1 := address i.operand s
    (i.mnemonic = .lda → exec i s = .next ({ r.2 with cpu := { r.2.cpu with a := r.1, p := p } }.finished i s)) ∧
    (i.mnemonic = .ldx → exec i s = .next ({ r.2 with cpu := { r.2.cpu with x := r.1, p := p } }.finished i s)) ∧
    (i.mnemonic = .ldy → exec i s = .next ({ r.2 with cpu := { r.2.cpu with y := r.1, p := p } }.finished i s)) ∧
    (i.mnemonic = .sta → exec i s = .next ((cpuWrite s1.cpu.ea s.cpu.a s1).finished i s)) ∧
    (i.mnemonic = .stx → exec i s = .next ((cpuWrite s1.cpu.ea s.cpu.x s1).finished i s)) ∧
    (i.mnemonic = .sty → exec i s = .next ((cpuWrite s1.cpu.ea s.cpu.y s1).finished i s))

/-- 41_transfer_stack.md R222 to R227 and 43_shift_incdec.md R268 to R271: the register transfers, and X and Y up or down by one
modulo 256. TXS sets no flag. -/
def Obligations.TransfersAndCounts : Prop :=
  ∀ s : State,
    let s1 := address .imp s
    let p := s.cpu.p
    let up (v : Byte) : Byte := BitVec.ofNat 8 (v.toNat + 1)
    let down (v : Byte) : Byte := BitVec.ofNat 8 (v.toNat + 255)
    exec .tax s = .next ({ s1 with cpu := { s1.cpu with x := s.cpu.a, p := p.znOf s.cpu.a } }.finished .tax s) ∧
    exec .tay s = .next ({ s1 with cpu := { s1.cpu with y := s.cpu.a, p := p.znOf s.cpu.a } }.finished .tay s) ∧
    exec .txa s = .next ({ s1 with cpu := { s1.cpu with a := s.cpu.x, p := p.znOf s.cpu.x } }.finished .txa s) ∧
    exec .tya s = .next ({ s1 with cpu := { s1.cpu with a := s.cpu.y, p := p.znOf s.cpu.y } }.finished .tya s) ∧
    exec .tsx s = .next ({ s1 with cpu := { s1.cpu with x := s.cpu.sp, p := p.znOf s.cpu.sp } }.finished .tsx s) ∧
    exec .txs s = .next ({ s1 with cpu := { s1.cpu with sp := s.cpu.x } }.finished .txs s) ∧
    exec .inx s = .next ({ s1 with cpu := { s1.cpu with x := up s.cpu.x, p := p.znOf (up s.cpu.x) } }.finished .inx s) ∧
    exec .iny s = .next ({ s1 with cpu := { s1.cpu with y := up s.cpu.y, p := p.znOf (up s.cpu.y) } }.finished .iny s) ∧
    exec .dex s = .next ({ s1 with cpu := { s1.cpu with x := down s.cpu.x, p := p.znOf (down s.cpu.x) } }.finished .dex s) ∧
    exec .dey s = .next ({ s1 with cpu := { s1.cpu with y := down s.cpu.y, p := p.znOf (down s.cpu.y) } }.finished .dey s)

/-- 41_transfer_stack.md R228 to R231, with the stack's wrap of R220: PHA and PHP store at `SP` and move it down, PLA and PLP move
`SP` up and read there; PHP pushes bits 5 and 4 set, PLP ignores them. -/
def Obligations.StackInstructions : Prop :=
  ∀ s : State,
    let s1 := address .imp s
    let pulled := s.ram.read (stackIndex s 1)
    let spDown : Byte := BitVec.ofNat 8 (s.cpu.sp.toNat + 255)
    let spUp : Byte := BitVec.ofNat 8 (s.cpu.sp.toNat + 1)
    exec .pha s = .next ({ s1 with
      ram := s.ram.write (stackIndex s 0) s.cpu.a, cpu := { s1.cpu with sp := spDown } }.finished .pha s) ∧
    exec .php s = .next ({ s1 with
      ram := s.ram.write (stackIndex s 0) (BitVec.ofNat 8 (packedFlags s.cpu.p true)),
      cpu := { s1.cpu with sp := spDown } }.finished .php s) ∧
    exec .pla s = .next ({ s1 with
      cpu := { s1.cpu with sp := spUp, a := pulled, p := s.cpu.p.znOf pulled } }.finished .pla s) ∧
    exec .plp s = .next ({ s1 with cpu := { s1.cpu with sp := spUp, p := unpackedFlags s.cpu.p pulled } }.finished .plp s)

/-- 42_alu.md R241 to R243, in whole numbers: the sum or difference modulo 256, C the carry out or the absence of a borrow, V the
signed overflow; the decimal flag has no part. -/
def Obligations.AddSubtract : Prop :=
  ∀ (i : Instr) (s : State),
    let r := dataRead i.operand s
    let a := s.cpu.a
    let c := bitNat s.cpu.p.c
    let sum := a.toNat + r.1.toNat + c
    let signedSum := a.toInt + r.1.toInt + c
    let difference : Int := a.toNat - r.1.toNat - (1 - c)
    let signedDifference := a.toInt - r.1.toInt - (1 - c)
    (i.mnemonic = .adc → exec i s = .next ({ r.2 with cpu := { r.2.cpu with
      a := BitVec.ofNat 8 sum,
      p := { s.cpu.p.znOf (BitVec.ofNat 8 sum) with
        c := decide (256 ≤ sum), v := decide (signedSum < -128 ∨ 127 < signedSum) } } }.finished i s)) ∧
    (i.mnemonic = .sbc → exec i s = .next ({ r.2 with cpu := { r.2.cpu with
      a := BitVec.ofInt 8 difference,
      p := { s.cpu.p.znOf (BitVec.ofInt 8 difference) with
        c := decide (0 ≤ difference), v := decide (signedDifference < -128 ∨ 127 < signedDifference) } } }.finished i s))

/-- 42_alu.md R244 to R250: AND, ORA and EOR bit by bit; CMP, CPX and CPY as the unsigned comparison with Z and N of the
difference; BIT with N and V from the memory byte. -/
def Obligations.LogicCompareTest : Prop :=
  ∀ (i : Instr) (s : State),
    let r := dataRead i.operand s
    let compared (v : Byte) : State := { r.2 with cpu := { r.2.cpu with
      p := { s.cpu.p with
        c := decide (r.1.toNat ≤ v.toNat), z := decide (v = r.1), n := decide (128 ≤ (v.toNat + 256 - r.1.toNat) % 256) } } }
    (i.mnemonic = .and ∨ i.mnemonic = .ora ∨ i.mnemonic = .eor →
      ∃ v : Byte,
        (∀ k < 8, v.getLsbD k =
          (if i.mnemonic = .and then s.cpu.a.getLsbD k && r.1.getLsbD k
           else if i.mnemonic = .ora then s.cpu.a.getLsbD k || r.1.getLsbD k
           else s.cpu.a.getLsbD k ^^ r.1.getLsbD k)) ∧
        exec i s = .next ({ r.2 with cpu := { r.2.cpu with a := v, p := s.cpu.p.znOf v } }.finished i s)) ∧
    (i.mnemonic = .cmp → exec i s = .next ((compared s.cpu.a).finished i s)) ∧
    (i.mnemonic = .cpx → exec i s = .next ((compared s.cpu.x).finished i s)) ∧
    (i.mnemonic = .cpy → exec i s = .next ((compared s.cpu.y).finished i s)) ∧
    (i.mnemonic = .bit → exec i s = .next ({ r.2 with cpu := { r.2.cpu with
      p := { s.cpu.p with
        z := decide (s.cpu.a &&& r.1 = 0),
        n := decide (128 ≤ r.1.toNat), v := decide (r.1.toNat / 64 % 2 = 1) } } }.finished i s))

/-- 43_shift_incdec.md R262 to R267, in whole numbers: the shifts and rotates, whose result goes to A in Accumulator mode and in one
write to the effective address otherwise, the bit shifted out to C; INC and DEC, which leave C. -/
def Obligations.ReadModifyWrite : Prop :=
  ∀ (i : Instr) (s : State),
    let r := dataRead i.operand s
    let v := r.1.toNat
    let c := bitNat s.cpu.p.c
    let put (result : Nat) (carry : Bool) : State :=
      let s2 : State := { r.2 with cpu := { r.2.cpu with p := { s.cpu.p with c := carry } } }
      let out : Byte := BitVec.ofNat 8 result
      let s3 : State := if i.operand = .acc then { s2 with cpu := { s2.cpu with a := out } } else cpuWrite s2.cpu.ea out s2
      { s3 with cpu := { s3.cpu with p := s3.cpu.p.znOf out } }.finished i s
    (i.mnemonic = .asl → exec i s = .next (put (2 * v % 256) (decide (128 ≤ v)))) ∧
    (i.mnemonic = .lsr → exec i s = .next (put (v / 2) (decide (v % 2 = 1)))) ∧
    (i.mnemonic = .rol → exec i s = .next (put ((2 * v + c) % 256) (decide (128 ≤ v)))) ∧
    (i.mnemonic = .ror → exec i s = .next (put (v / 2 + 128 * c) (decide (v % 2 = 1)))) ∧
    (i.mnemonic = .inc → exec i s = .next (put ((v + 1) % 256) s.cpu.p.c)) ∧
    (i.mnemonic = .dec → exec i s = .next (put ((v + 255) % 256) s.cpu.p.c))

/-- 44_control_flow.md R282 to R284: JMP goes to its effective address in 3 or 5 cycles; JSR pushes the address of its last byte,
high byte first; RTS pulls and adds one. -/
def Obligations.JumpsAndCalls : Prop :=
  ∀ (s : State) (a : Addr),
    let direct := address (.abs a) s
    let indirect := address (.ind a) s
    let implied := address .imp s
    let ret := (s.cpu.pc.toNat + 2) % 65536
    exec (.jmpAbs a) s = .next { direct with cpu := { direct.cpu with pc := a, countdown := 3 } } ∧
    exec (.jmpInd a) s = .next { indirect with cpu := { indirect.cpu with pc := indirect.cpu.ea, countdown := 5 } } ∧
    exec (.jsrAbs a) s = .next { direct with
      ram := (s.ram.write (stackIndex s 0) (BitVec.ofNat 8 (ret / 256))).write (stackIndex s (-1)) (BitVec.ofNat 8 (ret % 256)),
      cpu := { direct.cpu with pc := a, sp := BitVec.ofNat 8 (s.cpu.sp.toNat + 254), countdown := 6 } } ∧
    exec .rts s = .next { implied with
      cpu := { implied.cpu with
        pc := BitVec.ofNat 16 (256 * (s.ram.read (stackIndex s 2)).toNat + (s.ram.read (stackIndex s 1)).toNat + 1),
        sp := BitVec.ofNat 8 (s.cpu.sp.toNat + 2), countdown := 6 } }

/-- 44_control_flow.md R285 to R293: each of the eight branches on its flag, its target and its cost, taken or not. -/
def Obligations.Branches : Prop :=
  ∀ (d : Int) (s : State),
    let s1 := address (.rel d) s
    let next := (s.cpu.pc.toNat + 2) % 65536
    let target := ((s.cpu.pc.toNat + 2 + d) % 65536).toNat
    let go : State := { s1 with cpu := { s1.cpu with
      pc := BitVec.ofNat 16 target, countdown := if next / 256 ≠ target / 256 then 4 else 3 } }
    let stay : State := { s1 with cpu := { s1.cpu with pc := BitVec.ofNat 16 next, countdown := 2 } }
    exec (.bpl d) s = .next (if s.cpu.p.n = false then go else stay) ∧
    exec (.bmi d) s = .next (if s.cpu.p.n = true then go else stay) ∧
    exec (.bvc d) s = .next (if s.cpu.p.v = false then go else stay) ∧
    exec (.bvs d) s = .next (if s.cpu.p.v = true then go else stay) ∧
    exec (.bcc d) s = .next (if s.cpu.p.c = false then go else stay) ∧
    exec (.bcs d) s = .next (if s.cpu.p.c = true then go else stay) ∧
    exec (.bne d) s = .next (if s.cpu.p.z = false then go else stay) ∧
    exec (.beq d) s = .next (if s.cpu.p.z = true then go else stay)

/-- 44_control_flow.md R294, R295: BRK pushes the address two past its opcode and the flag byte with bits 5 and 4 set, sets I and
the stored B and goes to the vector at 0xFFFE; RTI pulls the flags, B kept, and the program counter. -/
def Obligations.BreakAndReturn : Prop :=
  ∀ s : State,
    let s1 := address .imp s
    let ret := (s.cpu.pc.toNat + 2) % 65536
    exec .brk s = .next { s1 with
      ram := ((s.ram.write (stackIndex s 0) (BitVec.ofNat 8 (ret / 256))).write (stackIndex s (-1))
        (BitVec.ofNat 8 (ret % 256))).write (stackIndex s (-2)) (BitVec.ofNat 8 (packedFlags s.cpu.p true)),
      cpu := { s1.cpu with
        sp := BitVec.ofNat 8 (s.cpu.sp.toNat + 253), p := { s.cpu.p with b := true, i := true },
        pc := wordOf (cpuRead 0xFFFF s).1 (cpuRead 0xFFFE s).1, countdown := 7 } } ∧
    exec .rti s = .next { s1 with
      cpu := { s1.cpu with
        sp := BitVec.ofNat 8 (s.cpu.sp.toNat + 3), p := unpackedFlags s.cpu.p (s.ram.read (stackIndex s 1)),
        pc := wordOf (s.ram.read (stackIndex s 3)) (s.ram.read (stackIndex s 2)), countdown := 6 } }

/-- 45_flags_nop.md R311 to R318: each flag instruction writes its one flag and NOP none; 2 cycles, PC + 1, nothing else but the
latch of the Implied mode. -/
def Obligations.FlagInstructions : Prop :=
  ∀ s : State,
    let answer (p : Flags) : Result := .next
      { address .imp s with cpu := { (address .imp s).cpu with p := p, pc := s.cpu.pc + 1, countdown := 2 } }
    exec .clc s = answer { s.cpu.p with c := false } ∧
    exec .sec s = answer { s.cpu.p with c := true } ∧
    exec .cli s = answer { s.cpu.p with i := false } ∧
    exec .sei s = answer { s.cpu.p with i := true } ∧
    exec .clv s = answer { s.cpu.p with v := false } ∧
    exec .cld s = answer { s.cpu.p with d := false } ∧
    exec .sed s = answer { s.cpu.p with d := true } ∧
    exec .nop s = answer s.cpu.p

/-- JSR then RTS comes back behind the JSR; an NMI entry or a BRK then RTI comes back with the registers, the stack pointer and
the flags but B; PHP then PLP restores the flags but B. From every state, at every stack depth (44_control_flow.md R283, R284,
R294, R295; 60_exceptions.md R484, R487; 41_transfer_stack.md R229, R231). -/
def Obligations.CallAndTrapRoundTrips : Prop :=
  ∀ (s : State) (a : Addr),
    (∃ t u, exec (.jsrAbs a) s = .next t ∧ t.cpu.pc = a ∧ exec .rts t = .next u ∧
      u.cpu.pc = s.cpu.pc + 3 ∧ u.cpu.sp = s.cpu.sp ∧ u.cpu.p = s.cpu.p) ∧
    (∃ u, exec .rti (nmiEntry s) = .next u ∧ u.cpu.pc = s.cpu.pc ∧ u.cpu.sp = s.cpu.sp ∧
      u.cpu.p = { s.cpu.p with b := false } ∧ u.cpu.a = s.cpu.a ∧ u.cpu.x = s.cpu.x ∧ u.cpu.y = s.cpu.y) ∧
    (∃ t u, exec .brk s = .next t ∧ exec .rti t = .next u ∧ u.cpu.pc = s.cpu.pc + 2 ∧ u.cpu.sp = s.cpu.sp ∧
      u.cpu.p = { s.cpu.p with b := true }) ∧
    (∃ t u, exec .php s = .next t ∧ exec .plp t = .next u ∧ u.cpu.sp = s.cpu.sp ∧ u.cpu.p = s.cpu.p)

/-! Exceptions, the CPU tick and the master tick. -/

/-- 60_exceptions.md R484: at a boundary with an NMI pending, and at every stack depth, the machine pushes PC high then low and the
flag byte with bit 4 clear, clears the stored B, sets I, takes PC from the vector at 0xFFFA, clears the request and charges 7
ticks; nothing else changes. -/
def Obligations.NmiEntry : Prop :=
  ∀ s : State, s.cpu.nmiPending = true →
    boundary s = .next { s with
      ram := ((s.ram.write (stackIndex s 0) (BitVec.ofNat 8 (s.cpu.pc.toNat / 256))).write (stackIndex s (-1))
        (BitVec.ofNat 8 (s.cpu.pc.toNat % 256))).write (stackIndex s (-2)) (BitVec.ofNat 8 (packedFlags s.cpu.p false)),
      cpu := { s.cpu with
        sp := BitVec.ofNat 8 (s.cpu.sp.toNat + 253), p := { s.cpu.p with b := false, i := true },
        pc := wordOf (cpuRead 0xFFFB s).1 (cpuRead 0xFFFA s).1, nmiPending := false, countdown := 7 } }

/-- 60_exceptions.md R483, with 55_system_tick.md R455 and R457: a CPU tick with the countdown running only counts down, whatever
is pending; at a boundary exactly one thing happens: the NMI entry if one is pending (a pending DMA stall stays pending), else
the stall of 513 ticks, else the instruction at PC. The tick that does it counts as the first of its cost. -/
def Obligations.CpuTickPriority : Prop :=
  ∀ s : State,
    (s.cpu.countdown ≠ 0 → cpuTick s = .next { s with cpu := { s.cpu with countdown := s.cpu.countdown - 1 } }) ∧
    (s.cpu.countdown = 0 → s.sys.phase = .running → s.cpu.nmiPending = true →
      ∃ t, boundary s = .next t ∧ t.cpu.dmaPending = s.cpu.dmaPending ∧
        cpuTick s = .next { t with cpu := { t.cpu with countdown := 6 } }) ∧
    (s.cpu.countdown = 0 → s.sys.phase = .running → s.cpu.nmiPending = false → s.cpu.dmaPending = true →
      cpuTick s = .next { s with cpu := { s.cpu with dmaPending := false, countdown := 512 } }) ∧
    (s.cpu.countdown = 0 → s.sys.phase = .running → s.cpu.nmiPending = false → s.cpu.dmaPending = false →
      ∀ i rest t, decode (fetch s).1 = .ok (i, rest) → exec i (fetch s).2 = .next t →
        cpuTick s = .next { t with cpu := { t.cpu with countdown := t.cpu.countdown - 1 } })

/-- 55_system_tick.md R458: what a boundary starts, at a cost of `n`, occupies exactly `n` CPU ticks: the one that does it and
`n - 1` that do nothing but count down; then the machine is at the next boundary. -/
def Obligations.CostOccupiesTicks : Prop :=
  ∀ (n : Nat) (s t : State), s.cpu.countdown = 0 → boundary s = .next t → t.sys.phase ≠ .faulted → t.cpu.countdown = n →
    0 < n → runCpuTicks n s = .next { t with cpu := { t.cpu with countdown := 0 } }

/-- 55_system_tick.md R459 and R472: a boundary at one of the 105 illegal bytes performs the opcode fetch, records the byte and its
address, faults the machine, and changes nothing else, the countdown included; a faulted machine reports the recorded fault on
every later tick. That the faulting tick answers a next state and every later step the fault `.halted` with the record is the
model's reading of the two rules (DEDUCED, notes/assumptions/8.md). -/
def Obligations.IllegalOpcodeHalts : Prop :=
  (∀ s : State, s.cpu.countdown = 0 → s.sys.phase = .running → s.cpu.nmiPending = false → s.cpu.dmaPending = false →
    (cpuRead s.cpu.pc s).1 ∈ illegalBytes →
    let r := cpuRead s.cpu.pc s
    cpuTick s = .next { r.2 with
      cpu := { r.2.cpu with fault := some ⟨r.1, s.cpu.pc⟩ }, sys := { r.2.sys with phase := .faulted } }) ∧
  (∀ s : State, s.sys.phase = .faulted → step s = .fault (.halted s.cpu.fault))

/-- 55_system_tick.md R471 and R472: `power_up`, `reset` and `tick` are refused in the phases Empty and LoadFailed, `reset` and
`tick` in Loaded, each by its name; `power_up` is accepted in Loaded. That the outcome UnsupportedMapper carries no mapper number in
phase LoadFailed is the model's form (DESIGN CHOICE, notes/assumptions/10.md). -/
def Obligations.WrongPhaseRefused : Prop :=
  ∀ (s : State) (launch : LaunchMemory),
    (s.sys.phase = .empty → step s = .refused (.uninitializedUse .empty) ∧
      hostPowerUp launch s = .error .uninitializedUse ∧ hostReset s = .error .uninitializedUse) ∧
    (s.sys.phase = .loadFailed → step s = .refused .unsupportedMapper ∧
      hostPowerUp launch s = .error (.unsupportedMapper none) ∧ hostReset s = .error (.unsupportedMapper none)) ∧
    (s.sys.phase = .loaded → step s = .refused (.uninitializedUse .loaded) ∧ hostReset s = .error .uninitializedUse ∧
      hostPowerUp launch s = .ok (powerUpState launch s))

/-- 55_system_tick.md R452, with the ratios of R451: a master-clock unit of a running machine is a PPU tick every 4 (PAL: 5) units,
then a CPU tick every 12 (PAL: 16) units followed by an APU tick unless the CPU faulted, then the count. -/
def Obligations.MasterUnitOrder : Prop :=
  ∀ s : State, s.runnable →
    let perPpu := if s.cfg.header.tv = .ntsc then 4 else 5
    let perCpu := if s.cfg.header.tv = .ntsc then 12 else 16
    let s1 := if s.sys.master % perPpu = 0 then s.ppuTick else s
    let counted (t : State) : State := { t with sys := { t.sys with master := t.sys.master + 1 } }
    (s.sys.master % perCpu ≠ 0 → step s = .next (counted s1)) ∧
    (s.sys.master % perCpu = 0 → ∀ t, cpuTick s1 = .next t →
      step s = .next (counted (if t.sys.phase = .running then t.apuTick else t)))

/-- When the bytes at PC decode to an instruction in a unit that starts one, the step is that instruction's `exec`, with the PPU tick
before it and the decrement, the APU tick and the count after it; the bytes are read in ascending order, only as many as the
opcode's length has, and are the instruction's encoding (30_encoding.md R174, R175; 55_system_tick.md R452, R455). -/
def Obligations.StepRunsDecoded : Prop :=
  (∀ (s : State) (i : Instr) (rest : List Byte) (t : State),
    let s1 := ppuPart s
    s.runnable → cpuDue s = true → s1.cpu.countdown = 0 → s1.cpu.nmiPending = false → s1.cpu.dmaPending = false →
    decode (fetch s1).1 = .ok (i, rest) → exec i (fetch s1).2 = .next t →
      step s = .next (countUnit (apuPart (endCpuTick t))) ∧ i.wellFormed = true ∧ (fetch s1).1 = encode i) ∧
  (∀ s : State,
    let r0 := cpuRead s.cpu.pc s
    let r1 := cpuRead (s.cpu.pc + 1) r0.2
    let r2 := cpuRead (s.cpu.pc + 2) r1.2
    fetch s = (match opcodeLength r0.1 with
      | some 3 => ([r0.1, r1.1, r2.1], r2.2)
      | some 2 => ([r0.1, r1.1], r1.2)
      | _ => ([r0.1], r0.2)))

/-! Whole-machine rules. -/

/-- The NMI request rises only in the PPU tick that processes position (241, 1), with the NMI enabled and the flag not suppressed:
no instruction, no register access and no other tick raises it (60_exceptions.md R485; 50_ppu.md R352). -/
def Obligations.NmiOnlyAtVblank : Prop :=
  ∀ s t : State, step s = .next t → s.cpu.nmiPending = false → t.cpu.nmiPending = true →
    s.ppu.scanline = 241 ∧ s.ppu.dot = 1 ∧ s.ppu.suppressVbl = false ∧ s.ppu.ctrl.getLsbD 7 = true ∧
      s.sys.master % masterPerPpu s.cfg.header.tv = 0

/-- The cartridge image, and with it every ROM byte, the header and the palette table, is never changed by a step or by a bus
write, and neither are the host's controller buttons (20_memory.md R109; 55_system_tick.md R473). -/
def Obligations.ImageNeverChanges : Prop :=
  (∀ s t : State, step s = .next t → t.cfg = s.cfg ∧ t.sys.ctrlButtons = s.sys.ctrlButtons) ∧
  (∀ (a : Addr) (v : Byte) (s : State), (cpuWrite a v s).cfg = s.cfg)

/-- Every step from a state that meets the invariant gives a state that meets it: all memories keep their size and canonical form,
the PPU's position stays legal, sprite evaluation stays where R370 allows it, the frame sequencer below its wrap value, the
sequencers rotations of their duty patterns, the MMC1 count below 5, vblank inside its window, and the fault record agrees with
the phase. -/
def Obligations.StepKeepsInvariant : Prop :=
  ∀ s t : State, s.Inv → step s = .next t → t.Inv

/-- The state after reset meets the invariant, and is a machine that can run. -/
def Obligations.ResetMeetsInvariant : Prop :=
  State.reset.Inv ∧ State.reset.runnable

/-- A running machine on a supported mapper always steps: no instruction, address or data stops it; the clock counts, and the phase
after is Running or, after an illegal opcode, Faulted (60_exceptions.md R481; 55_system_tick.md R472). -/
def Obligations.RunningMachineSteps : Prop :=
  ∀ s : State, s.runnable → ∃ t, step s = .next t ∧ t.sys.master = s.sys.master + 1 ∧
    (t.sys.phase = .running ∨ (t.sys.phase = .faulted ∧ t.cpu.fault.isSome = true))

/-! Memory and the address map. -/

/-- 20_memory.md R84: internal RAM is 2 KiB seen four times; a read has no side effect and gives the last byte written to any mirror
of the address. -/
def Obligations.RamMirrored : Prop :=
  ∀ (a b : Addr) (v : Byte) (s : State), a.toNat < 0x2000 → b.toNat < 0x2000 →
    cpuRead b s = (s.ram.read (b.toNat % 2048), s) ∧
    (cpuRead b (cpuWrite a v s)).1 = (if a.toNat % 2048 = b.toNat % 2048 then v else (cpuRead b s).1)

/-- The rows of the CPU address map outside RAM and ROM: which registers answer where, what is open bus, what is ignored
(20_memory.md R81 to R89; 21_mappers.md R130, R140, R156, R161). That each open-bus read is the model's next free value is the
model's form (notes/assumptions/3.md). -/
def Obligations.AddressMapRows : Prop :=
  ∀ (a : Addr) (v : Byte) (s : State),
    let n := a.toNat
    let openBus : Byte × State := (Config.freeByte s.draws, { s with draws := s.draws + 1 })
    let bank := s.mapper.mmc1Chr0.toNat / 4 % 4 % max 1 s.cfg.header.prgRamUnits
    (0x2000 ≤ n → n < 0x4000 → ∃ r : BitVec 3, r.toNat = n % 8 ∧ cpuRead a s = s.ppuRegRead r ∧
      cpuWrite a v s = s.ppuRegWrite r v) ∧
    (0x4000 ≤ n → n < 0x4004 → ∃ r : BitVec 2, r.toNat = n % 4 ∧ cpuRead a s = openBus ∧
      cpuWrite a v s = { s with apu := { s.apu with p1 := s.apu.p1.writeReg r v } }) ∧
    (0x4004 ≤ n → n < 0x4008 → ∃ r : BitVec 2, r.toNat = n % 4 ∧ cpuRead a s = openBus ∧
      cpuWrite a v s = { s with apu := { s.apu with p2 := s.apu.p2.writeReg r v } }) ∧
    (0x4008 ≤ n → n < 0x4014 → cpuRead a s = openBus ∧ cpuWrite a v s = s) ∧
    (n = 0x4014 → cpuRead a s = openBus) ∧
    (n = 0x4015 → cpuRead a s = (s.apu.readStatus, s) ∧ cpuWrite a v s = { s with apu := s.apu.writeStatus v }) ∧
    (n = 0x4017 → cpuRead a s = openBus ∧ cpuWrite a v s = { s with apu := s.apu.writeFrameCounter v }) ∧
    (0x4018 ≤ n → n < 0x6000 → cpuRead a s = openBus ∧ cpuWrite a v s = s) ∧
    (0x6000 ≤ n → n < 0x8000 →
      (s.cfg.header.mapper = .nrom → s.cfg.nromHasPrgRam = true →
        cpuRead a s = (s.prgRam.read (n % 8192), s) ∧ cpuWrite a v s = { s with prgRam := s.prgRam.write (n % 8192) v }) ∧
      (s.cfg.header.mapper = .nrom → s.cfg.nromHasPrgRam = false → cpuRead a s = openBus ∧ cpuWrite a v s = s) ∧
      (s.cfg.header.mapper = .mmc1 →
        cpuRead a s = (s.prgRam.read (8192 * bank + n % 8192), s) ∧
        cpuWrite a v s = { s with prgRam := s.prgRam.write (8192 * bank + n % 8192) v }) ∧
      (s.cfg.header.mapper = .uxrom ∨ s.cfg.header.mapper = .axrom → cpuRead a s = openBus ∧ cpuWrite a v s = s))

/-- 20_memory.md R88: a write sets the strobe from bit 0 and, when that is 1, loads the buttons; a read shifts unless the strobe is
on; after a strobe pulse successive reads give the eight buttons from bit 0 up and then 1. -/
def Obligations.ControllerPort : Prop :=
  ∀ (s : State) (v w : Byte) (n : Nat),
    cpuWrite 0x4016 v s = { s with sys := { s.sys with
      ctrlStrobe := decide (v.toNat % 2 = 1),
      ctrlShift := if v.toNat % 2 = 1 then s.sys.ctrlButtons else s.sys.ctrlShift } } ∧
    (cpuRead 0x4016 s).1.getLsbD 0 =
      (if s.sys.ctrlStrobe = true then s.sys.ctrlButtons else s.sys.ctrlShift).getLsbD 0 ∧
    (cpuRead 0x4016 s).2.sys = { s.sys with
      ctrlShift := if s.sys.ctrlStrobe = true then s.sys.ctrlButtons
        else BitVec.ofNat 8 (s.sys.ctrlShift.toNat / 2 + 128) } ∧
    (v.toNat % 2 = 1 → w.toNat % 2 = 0 →
      (controllerRead n (cpuWrite 0x4016 w (cpuWrite 0x4016 v s))).getLsbD 0 =
        (if n < 8 then s.sys.ctrlButtons.getLsbD n else true))

/-- 20_memory.md R92: a write to 0x4014 makes 256 ordinary bus reads in ascending order from the page, with their side effects, each
stored into OAM from OAMADDR on, modulo 256; then the stall is pending; OAMADDR is as before. From a page of internal RAM, OAM
then holds that page. -/
def Obligations.OamDmaCopies : Prop :=
  ∀ (v : Byte) (s : State),
    (∃ f : Nat → State, f 0 = s ∧
      (∀ i < 256, ∃ a : Addr, a.toNat = 256 * v.toNat + i ∧
        let r := cpuRead a (f i)
        f (i + 1) = { r.2 with ppu := { r.2.ppu with
          oam := r.2.ppu.oam.write ((s.ppu.oamAddr.toNat + i) % 256) r.1 } }) ∧
      cpuWrite 0x4014 v s = { f 256 with cpu := { (f 256).cpu with dmaPending := true } }) ∧
    (cpuWrite 0x4014 v s).ppu.oamAddr = s.ppu.oamAddr ∧
    (v.toNat < 0x20 → ∀ i < 256,
      (cpuWrite 0x4014 v s).ppu.oam.read ((s.ppu.oamAddr.toNat + i) % 256) = s.ram.read ((256 * v.toNat + i) % 2048))

/-- 20_memory.md R100 to R102 and R104: the nametable and palette indices, by the tables; a PPU write is seen at every address of
the same cell and nowhere else, and a write to CHR-ROM nowhere at all. -/
def Obligations.PpuMemoryCells : Prop :=
  (∀ a : BitVec 14,
    let tbl := a.toNat / 1024 % 4
    ntIndex .horizontal a = [0, 0, 1, 1].getD tbl 0 * 1024 + a.toNat % 1024 ∧
    ntIndex .vertical a = [0, 1, 0, 1].getD tbl 0 * 1024 + a.toNat % 1024 ∧
    ntIndex .oneScreenLow a = a.toNat % 1024 ∧
    ntIndex .oneScreenHigh a = 1024 + a.toNat % 1024 ∧
    ntIndex .fourScreen a = [0, 1, 2, 3].getD tbl 0 * 1024 + a.toNat % 1024 ∧
    palIndex a = (if a.toNat % 32 ∈ [0x10, 0x14, 0x18, 0x1C] then a.toNat % 32 - 16 else a.toNat % 32)) ∧
  (∀ (a b : BitVec 14) (v : Byte) (s : State),
    ((∃ m k, ppuCell a s m k = true ∧ ppuCell b s m k = true) → (s.ppuWrite a v).ppuRead b = v) ∧
    ((¬ ∃ m k, ppuCell a s m k = true ∧ ppuCell b s m k = true) → (s.ppuWrite a v).ppuRead b = s.ppuRead b) ∧
    ((∃ m k, ppuCell a s m k = true) ↔ (0x2000 ≤ a.toNat ∨ s.cfg.header.chrUnits = 0)))

/-! Mappers. -/

/-- 21_mappers.md R131, R143, R157, R162 and R132, R145, R158, R163 in whole numbers: which image byte a CPU read of ROM space sees and
which CHR byte a PPU access reaches, on each mapper. Such a CPU read has no side effect; a PPU write stores where CHR is RAM and
is ignored where it is ROM. -/
def Obligations.BankedReads : Prop :=
  ∀ (s : State) (a : Addr) (pa : BitVec 14) (v : Byte), 0x8000 ≤ a.toNat → pa.toNat < 0x2000 →
    let n := a.toNat
    let units := s.cfg.header.prgUnits
    let prg := 16384 * units
    let chr := if s.cfg.header.chrUnits = 0 then 8192 else 8192 * s.cfg.header.chrUnits
    let m := s.mapper
    let b := m.mmc1Prg.toNat % 16
    let mode := m.mmc1Control.toNat / 4 % 4
    let image (off : Nat) : Byte × State := (s.cfg.prgRom.read off, s)
    let chrAccess (off : Nat) : Prop :=
      s.ppuRead pa = (if s.cfg.header.chrUnits = 0 then s.chrRam.read off else s.cfg.chrRom.read off) ∧
      s.ppuWrite pa v = (if s.cfg.header.chrUnits = 0 then { s with chrRam := s.chrRam.write off v } else s)
    (s.cfg.header.mapper = .nrom → cpuRead a s = image ((n - 0x8000) % prg) ∧ chrAccess (pa.toNat % chr)) ∧
    (s.cfg.header.mapper = .mmc1 →
      cpuRead a s = image ((if mode = 0 ∨ mode = 1 then b / 2 * 32768 + n % 32768
        else if mode = 2 then (if n < 0xC000 then 0 else b) * 16384 + n % 16384
        else (if n < 0xC000 then b else units - 1) * 16384 + n % 16384) % prg) ∧
      chrAccess ((if m.mmc1Control.toNat / 16 % 2 = 0 then m.mmc1Chr0.toNat / 2 * 8192 + pa.toNat % 8192
        else if pa.toNat < 0x1000 then m.mmc1Chr0.toNat * 4096 + pa.toNat % 4096
        else m.mmc1Chr1.toNat * 4096 + pa.toNat % 4096) % chr)) ∧
    (s.cfg.header.mapper = .uxrom →
      cpuRead a s = image ((if n < 0xC000 then m.uxromBank.toNat % units else units - 1) * 16384 + n % 16384) ∧
      chrAccess (pa.toNat % chr)) ∧
    (s.cfg.header.mapper = .axrom →
      cpuRead a s = image ((m.axromBank.toNat * 32768 + n % 32768) % prg) ∧ chrAccess (pa.toNat % chr))

/-- 21_mappers.md R141, R147: a write with bit 7 clear shifts its low bit in from the top, and the one that makes the count 5 loads the
register its address selects instead; so five writes from an empty shift register load their five low bits, least significant
first; a write with bit 7 set empties the shift register and ors 0x0C into control. Nothing else changes but the mirroring, which
follows the control register. -/
def Obligations.Mmc1SerialLoad : Prop :=
  ∀ (s : State) (a1 a2 a3 a4 a5 : Addr) (v1 v2 v3 v4 v5 : Byte),
    s.cfg.header.mapper = .mmc1 → 0x8000 ≤ a1.toNat → 0x8000 ≤ a2.toNat → 0x8000 ≤ a3.toNat → 0x8000 ≤ a4.toNat →
    0x8000 ≤ a5.toNat →
    (s.mapper.mmc1Count = 0 → v1.toNat < 128 → v2.toNat < 128 → v3.toNat < 128 → v4.toNat < 128 → v5.toNat < 128 →
      let t := cpuWrite a5 v5 (cpuWrite a4 v4 (cpuWrite a3 v3 (cpuWrite a2 v2 (cpuWrite a1 v1 s))))
      let value := v1.toNat % 2 + 2 * (v2.toNat % 2) + 4 * (v3.toNat % 2) + 8 * (v4.toNat % 2) + 16 * (v5.toNat % 2)
      let target := a5.toNat / 0x2000 % 4
      t = { s with mapper := t.mapper } ∧
      t.mapper = { s.mapper with
        mmc1Shift := 0, mmc1Count := 0,
        mmc1Control := if target = 0 then BitVec.ofNat 5 value else s.mapper.mmc1Control,
        mmc1Chr0 := if target = 1 then BitVec.ofNat 5 value else s.mapper.mmc1Chr0,
        mmc1Chr1 := if target = 2 then BitVec.ofNat 5 value else s.mapper.mmc1Chr1,
        mmc1Prg := if target = 3 then BitVec.ofNat 5 value else s.mapper.mmc1Prg,
        mirroring := t.mirroring } ∧
      t.mirroring = [Mirroring.oneScreenLow, .oneScreenHigh, .vertical, .horizontal].getD
        (t.mapper.mmc1Control.toNat % 4) .horizontal) ∧
    (let u := cpuWrite a1 v1 s
     let value : BitVec 5 := BitVec.ofNat 5 (s.mapper.mmc1Shift.toNat / 2 + 16 * (v1.toNat % 2))
     let target := a1.toNat / 0x2000 % 4
     u.mapper.mirroring = u.mirroring ∧
     u.mirroring = [Mirroring.oneScreenLow, .oneScreenHigh, .vertical, .horizontal].getD (u.mapper.mmc1Control.toNat % 4)
       .horizontal ∧
     (128 ≤ v1.toNat → u = { s with mapper := { s.mapper with
       mmc1Shift := 0, mmc1Count := 0, mmc1Control := s.mapper.mmc1Control ||| 0x0C#5, mirroring := u.mirroring } }) ∧
     (v1.toNat < 128 → s.mapper.mmc1Count.toNat < 4 → u = { s with mapper := { s.mapper with
       mmc1Shift := value, mmc1Count := BitVec.ofNat 3 (s.mapper.mmc1Count.toNat + 1), mirroring := u.mirroring } }) ∧
     (v1.toNat < 128 → s.mapper.mmc1Count = 4 → u = { s with mapper := { s.mapper with
       mmc1Shift := 0, mmc1Count := 0,
       mmc1Control := if target = 0 then value else s.mapper.mmc1Control,
       mmc1Chr0 := if target = 1 then value else s.mapper.mmc1Chr0,
       mmc1Chr1 := if target = 2 then value else s.mapper.mmc1Chr1,
       mmc1Prg := if target = 3 then value else s.mapper.mmc1Prg,
       mirroring := u.mirroring } }))

/-- 21_mappers.md R131, R157, R162, R164: a write to ROM space sets the bank of UxROM from its low four bits, the bank of AxROM from
its low three and the mirroring from bit 4, and does nothing on NROM; the mirroring of NROM and UxROM is the header's. -/
def Obligations.SimpleMapperWrites : Prop :=
  ∀ (s : State) (a : Addr) (v : Byte), 0x8000 ≤ a.toNat →
    (s.cfg.header.mapper = .nrom → cpuWrite a v s = s ∧ s.mirroring = s.cfg.header.mirroring) ∧
    (s.cfg.header.mapper = .uxrom →
      cpuWrite a v s = { s with mapper := { s.mapper with uxromBank := BitVec.ofNat 4 (v.toNat % 16) } } ∧
      s.mirroring = s.cfg.header.mirroring) ∧
    (s.cfg.header.mapper = .axrom →
      cpuWrite a v s = { s with mapper := { s.mapper with
        axromBank := BitVec.ofNat 3 (v.toNat % 8),
        mirroring := if v.toNat / 16 % 2 = 1 then .oneScreenHigh else .oneScreenLow } } ∧
      (cpuWrite a v s).mirroring = (if v.toNat / 16 % 2 = 1 then .oneScreenHigh else .oneScreenLow))

/-! PPU. -/

/-- 50_ppu.md R326, R328, R329, R331 to R334, R336 in whole numbers: what a write to each PPU register does, and that it does
nothing else (no NMI comes of PPUCTRL); a write to PPUSTATUS does nothing; OAMDATA stores and moves OAMADDR on. -/
def Obligations.PpuRegisterWrites : Prop :=
  ∀ (s : State) (v : Byte),
    let n := v.toNat
    let t := s.ppu.t.toNat
    let a : BitVec 14 := BitVec.ofNat 14 s.ppu.v.toNat
    s.ppuRegWrite 0 v = { s with ppu := { s.ppu with
      ctrl := v, t := BitVec.ofNat 15 (t / 4096 * 4096 + n % 4 * 1024 + t % 1024) } } ∧
    s.ppuRegWrite 1 v = { s with ppu := { s.ppu with mask := v } } ∧
    s.ppuRegWrite 2 v = s ∧
    s.ppuRegWrite 3 v = { s with ppu := { s.ppu with oamAddr := v } } ∧
    s.ppuRegWrite 4 v = { s with ppu := { s.ppu with
      oam := s.ppu.oam.write s.ppu.oamAddr.toNat v, oamAddr := BitVec.ofNat 8 (s.ppu.oamAddr.toNat + 1) } } ∧
    (s.ppu.w = false → s.ppuRegWrite 5 v = { s with ppu := { s.ppu with
      t := BitVec.ofNat 15 (t / 32 * 32 + n / 8), x := BitVec.ofNat 3 n, w := true } }) ∧
    (s.ppu.w = true → s.ppuRegWrite 5 v = { s with ppu := { s.ppu with
      t := BitVec.ofNat 15 (n % 8 * 4096 + t / 1024 % 4 * 1024 + n / 8 * 32 + t % 32), w := false } }) ∧
    (s.ppu.w = false → s.ppuRegWrite 6 v = { s with ppu := { s.ppu with
      t := BitVec.ofNat 15 (n % 64 * 256 + t % 256), w := true } }) ∧
    (s.ppu.w = true → s.ppuRegWrite 6 v = { s with ppu := { s.ppu with
      t := BitVec.ofNat 15 (t / 256 * 256 + n), v := BitVec.ofNat 15 (t / 256 * 256 + n), w := false } }) ∧
    s.ppuRegWrite 7 v = { s.ppuWrite a v with ppu := { (s.ppuWrite a v).ppu with
      v := BitVec.ofNat 15 (s.ppu.v.toNat + if s.ppu.ctrl.getLsbD 2 then 32 else 1) } }

/-- 50_ppu.md R327, R335 and R337, with R330's read: the value and the side effects of a read of each PPU register. The low bits of
PPUSTATUS and the write-only registers read as free values; that such a read counts one free value in the model's own field `draws`
is the model's form, in the PPUSTATUS clause and in the write-only clause (DESIGN CHOICE, notes/assumptions/3.md). -/
def Obligations.PpuRegisterReads : Prop :=
  ∀ s : State,
    let status := s.ppuRegRead 2
    let a : BitVec 14 := BitVec.ofNat 14 s.ppu.v.toNat
    let v' : BitVec 15 := BitVec.ofNat 15 (s.ppu.v.toNat + if s.ppu.ctrl.getLsbD 2 then 32 else 1)
    let line := s.ppu.scanline
    let dot := s.ppu.dot
    status.1.toNat / 32 = 4 * bitNat s.ppu.vblank + 2 * bitNat s.ppu.spr0Hit + bitNat s.ppu.overflow ∧
    status.2 = { s with
      draws := s.draws + 1,
      ppu := { s.ppu with
        vblank := false, w := false, suppressVbl := s.ppu.suppressVbl || decide (line = 241 ∧ dot = 1) },
      cpu := { s.cpu with
        nmiPending := if line = 241 ∧ (dot = 2 ∨ dot = 3) then false else s.cpu.nmiPending } } ∧
    (∀ r : BitVec 3, r.toNat ∈ [0, 1, 3, 5, 6] → ∃ value, s.ppuRegRead r = (value, { s with draws := s.draws + 1 })) ∧
    s.ppuRegRead 4 = (s.ppu.oam.read s.ppu.oamAddr.toNat, s) ∧
    (0x3F00 ≤ a.toNat → s.ppuRegRead 7 = (s.ppu.palette.read (palIndex a), { s with ppu := { s.ppu with
      readBuffer := s.ppu.nt.read (ntIndex s.mirroring a), v := v' } })) ∧
    (a.toNat < 0x3F00 → s.ppuRegRead 7 = (s.ppu.readBuffer, { s with ppu := { s.ppu with
      readBuffer := s.ppuRead a, v := v' } }))

/-- 50_ppu.md R360 to R362: where the PPU's position goes in a tick: the odd-frame skip, the next dot, the next line, the frame
wrap with its copy of the framebuffer. And, from the start of a frame, the vblank flag rises in the 82183rd tick and not before
(70_reset_and_hazards.md R524). -/
def Obligations.PpuPosition : Prop :=
  (∀ s : State,
    let p := s.ppu
    let q := s.ppuTick.ppu
    let lines := if s.cfg.header.tv = .ntsc then 262 else 312
    let skips := s.cfg.header.tv = .ntsc ∧ p.scanline = 261 ∧ p.dot = 338 ∧ p.oddFrame = true ∧ p.mask.getLsbD 3 = true
    (skips → q.dot = 340 ∧ q.scanline = p.scanline ∧ q.oddFrame = p.oddFrame ∧ q.doneFb = p.doneFb ∧
      q.frameReady = p.frameReady) ∧
    (¬ skips → p.dot ≠ 340 → q.dot = p.dot + 1 ∧ q.scanline = p.scanline ∧ q.oddFrame = p.oddFrame ∧
      q.doneFb = p.doneFb ∧ q.frameReady = p.frameReady) ∧
    (p.dot = 340 → p.scanline + 1 ≠ lines → q.dot = 0 ∧ q.scanline = p.scanline + 1 ∧ q.oddFrame = p.oddFrame ∧
      q.doneFb = p.doneFb ∧ q.frameReady = p.frameReady) ∧
    (p.dot = 340 → p.scanline + 1 = lines → q.dot = 0 ∧ q.scanline = 0 ∧ q.oddFrame = !p.oddFrame ∧
      q.doneFb = q.fb ∧ q.frameReady = true)) ∧
  (∀ s : State, s.ppu.dot = 0 → s.ppu.scanline = 0 → s.ppu.vblank = false → s.ppu.suppressVbl = false →
    (∀ n < 82183, (State.ppuTick^[n] s).ppu.vblank = false) ∧ (State.ppuTick^[82183] s).ppu.vblank = true)

/-- 50_ppu.md R352, R353 and R355: at (241, 1) the tick sets vblank and, if enabled, the NMI request, unless suppressed; at dot 1 of
the pre-render line the three status flags fall; elsewhere vblank, the suppression and the request stay; a PPUSTATUS read at
(241, 1) before the flag rose returns 0 and keeps both the flag and the NMI of this frame from coming. -/
def Obligations.VblankAndSuppression : Prop :=
  ∀ s : State,
    let p := s.ppu
    let q := s.ppuTick
    let last := if s.cfg.header.tv = .ntsc then 261 else 311
    (p.scanline = 241 → p.dot = 1 →
      q.ppu.vblank = (p.vblank || !p.suppressVbl) ∧ q.ppu.suppressVbl = false ∧
      q.cpu = { s.cpu with nmiPending := s.cpu.nmiPending || (!p.suppressVbl && p.ctrl.getLsbD 7) }) ∧
    (p.scanline = last → p.dot = 1 → q.ppu.vblank = false ∧ q.ppu.spr0Hit = false ∧ q.ppu.overflow = false) ∧
    (¬ (p.scanline = 241 ∧ p.dot = 1) → q.cpu = s.cpu ∧ q.ppu.suppressVbl = p.suppressVbl ∧
      (¬ (p.scanline = last ∧ p.dot = 1) → q.ppu.vblank = p.vblank)) ∧
    (p.scanline = 241 → p.dot = 1 → p.vblank = false →
      let r := s.ppuRegRead 2
      r.1.getLsbD 7 = false ∧ r.2.ppuTick.ppu.vblank = false ∧ r.2.ppuTick.cpu.nmiPending = s.cpu.nmiPending)

/-- 50_ppu.md R356 to R359 in whole numbers: `IncCoarseX`, `IncY`, and the scroll step of a tick: which dots of which lines apply
them and the two copies, in order, only while rendering is enabled. -/
def Obligations.ScrollStep : Prop :=
  (∀ v : BitVec 15,
    let n := v.toNat
    let coarseX := n % 32
    let coarseY := n / 32 % 32
    let tableX := n / 1024 % 2
    let tableY := n / 2048 % 2
    let fineY := n / 4096
    (incCoarseX v).toNat =
      (if coarseX = 31 then fineY * 4096 + tableY * 2048 + (1 - tableX) * 1024 + coarseY * 32 else n + 1) ∧
    (incY v).toNat =
      (if fineY < 7 then n + 4096
       else if coarseY = 29 then (1 - tableY) * 2048 + tableX * 1024 + coarseX
       else if coarseY = 31 then tableY * 2048 + tableX * 1024 + coarseX
       else tableY * 2048 + tableX * 1024 + (coarseY + 1) * 32 + coarseX)) ∧
  (∀ s : State,
    let p := s.ppu
    let last := if s.cfg.header.tv = .ntsc then 261 else 311
    let horizontal (v : BitVec 15) : BitVec 15 :=
      BitVec.ofNat 15 (v.toNat / 2048 * 2048 + p.t.toNat / 1024 % 2 * 1024 + v.toNat / 32 % 32 * 32 + p.t.toNat % 32)
    let vertical (v : BitVec 15) : BitVec 15 :=
      BitVec.ofNat 15 (p.t.toNat / 2048 * 2048 + v.toNat / 1024 % 2 * 1024 + p.t.toNat / 32 % 32 * 32 + v.toNat % 32)
    let rendering := p.mask.getLsbD 3 = true ∨ p.mask.getLsbD 4 = true
    (rendering → p.scanline < 240 ∨ p.scanline = last →
      s.ppuTick.ppu.v =
        (if p.dot = 256 then incY (incCoarseX p.v)
         else if 8 ≤ p.dot ∧ p.dot < 256 ∧ p.dot % 8 = 0 then incCoarseX p.v
         else if p.dot = 257 then horizontal p.v
         else if p.dot = 280 ∧ p.scanline = last then vertical p.v
         else p.v)) ∧
    (¬ (rendering ∧ (p.scanline < 240 ∨ p.scanline = last)) → s.ppuTick.ppu.v = p.v))

/-- 50_ppu.md R323 and R380: a tick at dots 1 to 256 of a visible line writes the four bytes of its one pixel, alpha 0xFF and the RGB
triple of the composited palette index, and no other byte of the framebuffer; every other tick writes none. The triple is entries
3c, 3c + 1, 3c + 2 of the palette table, `c` the palette byte of the index after grayscale, passed through one fixed function of the
triple and the emphasis bits that is the identity where the bits are 0 (its other values are a parameter of the spec). -/
def Obligations.OnePixelPerDot : Prop :=
  (∃ emphasize : Rgb → BitVec 3 → Rgb, (∀ rgb, emphasize rgb 0 = rgb) ∧
    ∀ (s : State) (idx : BitVec 5),
      let entry := (s.ppu.palette.read (palIndex (BitVec.ofNat 14 idx.toNat))).toNat % 64
      let c := if s.ppu.mask.getLsbD 0 = true then entry / 16 * 16 else entry
      s.colour idx = emphasize
        ⟨s.cfg.ntscPalette.read (3 * c), s.cfg.ntscPalette.read (3 * c + 1), s.cfg.ntscPalette.read (3 * c + 2)⟩
        (BitVec.ofNat 3 (s.ppu.mask.toNat / 32))) ∧
  (∀ (s : State) (idx : BitVec 5), s.ppu.mask.toNat < 32 →
    let c := (s.ppu.colourIndex idx).toNat
    s.colour idx = ⟨s.cfg.ntscPalette.read (3 * c), s.cfg.ntscPalette.read (3 * c + 1), s.cfg.ntscPalette.read (3 * c + 2)⟩) ∧
  ∀ s : State,
    let p := s.ppu
    let o := 4 * (256 * p.scanline + (p.dot - 1))
    let visible := p.scanline < 240 ∧ 1 ≤ p.dot ∧ p.dot ≤ 256
    let c := s.colour (p.composite (s.bgPixel (p.dot - 1)) (s.spritePixel (p.dot - 1) p.scanline))
    (visible → ∀ k, s.ppuTick.ppu.fb.read k =
      (if k = o then c.r else if k = o + 1 then c.g else if k = o + 2 then c.b else if k = o + 3 then 0xFF
       else p.fb.read k)) ∧
    (¬ visible → s.ppuTick.ppu.fb = p.fb)

/-- 50_ppu.md R375 to R380: compositing by the table, the backdrop override, the sprite pattern address, the colour index, the
sprite-0 hit of a tick, and the sprite pixel of a column: nothing where sprites are off or clipped, else the lowest-numbered latched
sprite whose pixel there is not 0, with both flips, all in whole numbers. How a negative row, which only a stale latch can give,
enters the pattern address is the model's choice and is left open here (notes/assumptions/9.md). -/
def Obligations.Compositing : Prop :=
  (∀ (p : Ppu) (bg : BgPixel) (sp : SpritePixel),
    let b := bg.px.toNat
    let f := sp.px.toNat
    let bgIndex := 4 * bg.pal.toNat + b
    let spIndex := 16 + 4 * sp.pal.toNat + f
    let shown := p.mask.getLsbD 3 = true ∨ p.mask.getLsbD 4 = true
    (p.composite bg sp).toNat =
      (if b = 0 ∧ f = 0 then (if ¬ shown ∧ 0x3F00 ≤ p.v.toNat % 16384 then p.v.toNat % 32 else 0)
       else if b = 0 then spIndex
       else if f = 0 then bgIndex
       else if sp.behind = true then bgIndex else spIndex)) ∧
  (∀ (p : Ppu) (tile : Byte) (row : Nat),
    (p.ctrl.getLsbD 5 = false →
      (spritePatternAddr p tile row).toNat = (bitNat (p.ctrl.getLsbD 3) * 4096 ||| tile.toNat * 16 ||| row) % 16384) ∧
    (p.ctrl.getLsbD 5 = true →
      (spritePatternAddr p tile row).toNat =
        tile.toNat % 2 * 4096 + tile.toNat / 2 * 32 + (if 8 ≤ row then 16 else 0) + row % 8)) ∧
  (∀ (p : Ppu) (idx : BitVec 5),
    let c := (p.palette.read (palIndex (idx.zeroExtend 14))).toNat % 64
    (p.colourIndex idx).toNat = (if p.mask.getLsbD 0 = true then c / 16 * 16 else c)) ∧
  (∀ s : State,
    let p := s.ppu
    let x := p.dot - 1
    let last := if s.cfg.header.tv = .ntsc then 261 else 311
    s.ppuTick.ppu.spr0Hit =
      (if p.scanline < 240 ∧ 1 ≤ p.dot ∧ p.dot ≤ 256 then
        p.spr0Hit || decide ((s.spritePixel x p.scanline).isZero = true ∧ (s.bgPixel x).px ≠ 0 ∧
          (s.spritePixel x p.scanline).px ≠ 0 ∧ x ≠ 255)
       else if p.scanline = last ∧ p.dot = 1 then false else p.spr0Hit)) ∧
  (∀ (s : State) (x y : Nat),
    let p := s.ppu
    let byte (i k : Nat) : Nat := (p.lineSpr.read (4 * i + k)).toNat
    let height : Int := if p.ctrl.getLsbD 5 then 16 else 8
    let pixel (i : Nat) : Nat :=
      let col := if byte i 2 / 64 % 2 = 1 then 7 - (x - byte i 3) else x - byte i 3
      let row : Int := if byte i 2 / 128 % 2 = 1 then (height - 1) - ((y : Int) - 1 - byte i 0) else (y : Int) - 1 - byte i 0
      let pa := spritePatternAddr p (p.lineSpr.read (4 * i + 1)) row
      if x < byte i 3 ∨ byte i 3 + 7 < x then 0
      else 2 * ((s.ppuRead (pa + 8)).toNat / 2 ^ (7 - col) % 2) + (s.ppuRead pa).toNat / 2 ^ (7 - col) % 2
    let shown := p.mask.getLsbD 4 = true ∧ (8 ≤ x ∨ p.mask.getLsbD 2 = true)
    (¬ shown ∨ (∀ i < p.lineCount, pixel i = 0) → s.spritePixel x y = ⟨0, 0, false, false⟩) ∧
    (shown → ∀ i < p.lineCount, pixel i ≠ 0 → (∀ j < i, pixel j = 0) →
      s.spritePixel x y =
        { px := BitVec.ofNat 2 (pixel i), pal := BitVec.ofNat 2 (byte i 2 % 4), behind := decide (byte i 2 / 32 % 2 = 1),
          isZero := decide (i = 0 ∧ p.lineSpr0 = true) }))

/-- 50_ppu.md R372 to R374: the background pixel at a column, from the current scroll address: the tile, the two pattern bytes and the
attribute byte by their addresses, in whole numbers; nothing where the background is off or clipped. -/
def Obligations.BackgroundPixel : Prop :=
  ∀ (s : State) (x : Nat),
    let p := s.ppu
    let shown := p.mask.getLsbD 3 = true ∧ (8 ≤ x ∨ p.mask.getLsbD 1 = true)
    (¬ shown → s.bgPixel x = ⟨0, 0⟩) ∧
    (shown →
      let fx := p.x.toNat + x % 8
      let vv := (if 8 ≤ fx then incCoarseX p.v else p.v).toNat
      let at14 (n : Nat) : Nat := (s.ppuRead (BitVec.ofNat 14 n)).toNat
      let tile := at14 (0x2000 + vv % 4096)
      let pa := bitNat (p.ctrl.getLsbD 4) * 4096 + tile * 16 + vv / 4096
      let quadrants := at14 (0x23C0 + vv / 1024 % 4 * 1024 + vv / 128 % 8 * 8 + vv / 4 % 8)
      (s.bgPixel x).px.toNat = 2 * (at14 (pa + 8) / 2 ^ (7 - fx % 8) % 2) + at14 pa / 2 ^ (7 - fx % 8) % 2 ∧
      (s.bgPixel x).pal.toNat = quadrants / 2 ^ (4 * (vv / 64 % 2) + 2 * (vv / 2 % 2)) % 4)

/-- 50_ppu.md R370 and R371: the overflow flag rises exactly when the overflow scan finds a byte in range, at an even dot 66 to 256 of
a visible line with rendering enabled, and the scan is then done; where the byte is not in range, `ev_m` goes up modulo 4 together
with the sprite number, after sprite 63 the scan is done, and the flag stays. The flag falls only at dot 1 of the pre-render line. -/
def Obligations.OverflowFlag : Prop :=
  ∀ s : State,
    let p := s.ppu
    let q := s.ppuTick.ppu
    let last := if s.cfg.header.tv = .ntsc then 261 else 311
    let height := if p.ctrl.getLsbD 5 then 16 else 8
    (p.overflow = false → q.overflow = true →
      p.evPhase = .ovfScan ∧ p.scanline < 240 ∧ 66 ≤ p.dot ∧ p.dot ≤ 256 ∧ p.dot % 2 = 0 ∧
      (p.mask.getLsbD 3 = true ∨ p.mask.getLsbD 4 = true) ∧
      p.evLatch.toNat ≤ p.scanline ∧ p.scanline - p.evLatch.toNat < height ∧ q.evPhase = .done) ∧
    (p.overflow = true → q.overflow = false → p.scanline = last ∧ p.dot = 1) ∧
    (p.evPhase = .ovfScan → p.scanline < 240 → 66 ≤ p.dot → p.dot ≤ 256 → p.dot % 2 = 0 →
      (p.mask.getLsbD 3 = true ∨ p.mask.getLsbD 4 = true) →
      q.evFound = p.evFound ∧ q.secOam = p.secOam ∧ q.evSpr0 = p.evSpr0 ∧
      (if p.evLatch.toNat ≤ p.scanline ∧ p.scanline - p.evLatch.toNat < height then
        q.overflow = true ∧ q.evPhase = .done ∧ q.evN = p.evN ∧ q.evM = p.evM
      else
        q.overflow = p.overflow ∧ q.evM.toNat = (p.evM.toNat + 1) % 4 ∧
        q.evN = (if p.evN = 63 then 63 else p.evN + 1) ∧ q.evPhase = (if p.evN = 63 then .done else .ovfScan)))

/-- 50_ppu.md R363, R366 to R370: what sprite evaluation does in one tick, dot by dot: it clears secondary OAM, starts at sprite 0,
reads on odd dots, and on even dots takes a sprite in range, passes over one that is not, or copies a byte; it rests where rendering
is disabled; at dot 257 the sprites of the next line are latched, none on the pre-render line. And, over eight dots, a sprite in
range has its four OAM bytes copied to the next free slot of secondary OAM and is counted. -/
def Obligations.SpriteCopy : Prop :=
  (∀ s : State,
    let p := s.ppu
    let q := s.ppuTick.ppu
    let last := if s.cfg.header.tv = .ntsc then 261 else 311
    let height := if p.ctrl.getLsbD 5 then 16 else 8
    let rendering := p.mask.getLsbD 3 = true ∨ p.mask.getLsbD 4 = true
    let active := p.scanline < 240 ∧ rendering
    let acts := active ∧ 66 ≤ p.dot ∧ p.dot ≤ 256 ∧ p.dot % 2 = 0
    let inRange := p.evLatch.toNat ≤ p.scanline ∧ p.scanline - p.evLatch.toNat < height
    let next (phase : EvPhase) : Nat × EvPhase := if p.evN = 63 then (63, .done) else (p.evN + 1, phase)
    let stored (a : Nat) (v : Byte) : Prop := ∀ k, q.secOam.read k = if k = a then v else p.secOam.read k
    (active → 1 ≤ p.dot → p.dot ≤ 64 →
      (if p.dot % 2 = 0 then stored (p.dot / 2 - 1) 0xFF else q.secOam = p.secOam) ∧
      q.evN = p.evN ∧ q.evM = p.evM ∧ q.evFound = p.evFound ∧ q.evPhase = p.evPhase ∧ q.evLatch = p.evLatch ∧
      q.evSpr0 = p.evSpr0) ∧
    (active → p.dot = 65 →
      q.evN = 0 ∧ q.evM = 0 ∧ q.evFound = 0 ∧ q.evSpr0 = false ∧ q.evPhase = .scan ∧ q.evLatch = p.oam.read 0 ∧
      q.secOam = p.secOam) ∧
    (active → 67 ≤ p.dot → p.dot ≤ 255 → p.dot % 2 = 1 →
      q.evLatch = (if p.evPhase = .done then p.evLatch else p.oam.read ((4 * p.evN + p.evM.toNat) % 256)) ∧
      q.evN = p.evN ∧ q.evM = p.evM ∧ q.evFound = p.evFound ∧ q.evPhase = p.evPhase ∧ q.evSpr0 = p.evSpr0 ∧
      q.secOam = p.secOam) ∧
    (acts → q.evLatch = p.evLatch) ∧
    (acts → p.evPhase = .scan → inRange →
      stored (4 * p.evFound) p.evLatch ∧ q.evSpr0 = (p.evSpr0 || decide (p.evN = 0)) ∧ q.evM = 1 ∧ q.evPhase = .copy ∧
      q.evN = p.evN ∧ q.evFound = p.evFound) ∧
    (acts → p.evPhase = .scan → ¬ inRange →
      stored (4 * p.evFound) p.evLatch ∧ q.evSpr0 = p.evSpr0 ∧ q.evM = p.evM ∧ (q.evN, q.evPhase) = next .scan ∧
      q.evFound = p.evFound) ∧
    (acts → p.evPhase = .copy →
      stored (4 * p.evFound + p.evM.toNat) p.evLatch ∧ q.evSpr0 = p.evSpr0 ∧ q.evM.toNat = (p.evM.toNat + 1) % 4 ∧
      (p.evM.toNat < 3 → q.evN = p.evN ∧ q.evPhase = .copy ∧ q.evFound = p.evFound) ∧
      (p.evM = 3 → (q.evN, q.evPhase) = next (if p.evFound + 1 = 8 then .ovfScan else .scan) ∧
        q.evFound = p.evFound + 1)) ∧
    ((acts ∧ p.evPhase = .done) ∨ ¬ active ∨ p.dot = 0 ∨ 257 ≤ p.dot →
      q.secOam = p.secOam ∧ q.evN = p.evN ∧ q.evM = p.evM ∧ q.evFound = p.evFound ∧ q.evPhase = p.evPhase ∧
      q.evLatch = p.evLatch ∧ q.evSpr0 = p.evSpr0) ∧
    (p.scanline < 240 → p.dot = 257 → rendering →
      q.lineSpr = p.secOam ∧ q.lineCount = p.evFound ∧ q.lineSpr0 = p.evSpr0) ∧
    (p.scanline < 240 ∧ ¬ rendering ∨ p.scanline = last → p.dot = 257 →
      q.lineSpr = p.lineSpr ∧ q.lineCount = 0 ∧ q.lineSpr0 = false) ∧
    (¬ ((p.scanline < 240 ∨ p.scanline = last) ∧ p.dot = 257) →
      q.lineSpr = p.lineSpr ∧ q.lineCount = p.lineCount ∧ q.lineSpr0 = p.lineSpr0)) ∧
  (∀ s : State,
    let p := s.ppu
    let y := p.oam.read (4 * p.evN)
    let q := (State.ppuTick^[8] s).ppu
    p.evPhase = .scan → p.evM = 0 → p.evFound < 8 → p.evN ≤ 63 → p.scanline < 240 → 67 ≤ p.dot → p.dot ≤ 249 →
    p.dot % 2 = 1 → (p.mask.getLsbD 3 = true ∨ p.mask.getLsbD 4 = true) → y.toNat ≤ p.scanline →
    p.scanline - y.toNat < (if p.ctrl.getLsbD 5 then 16 else 8) →
      q.evFound = p.evFound + 1 ∧ (∀ k < 4, q.secOam.read (4 * p.evFound + k) = p.oam.read (4 * p.evN + k)) ∧
      (∀ k, k < 4 * p.evFound → q.secOam.read k = p.secOam.read k) ∧ q.oam = p.oam ∧
      (p.evN < 63 → q.evN = p.evN + 1 ∧ q.evPhase = (if p.evFound = 7 then .ovfScan else .scan)) ∧
      (p.evN = 63 → q.evPhase = .done) ∧ (p.evN = 0 → q.evSpr0 = true))

/-! APU. -/

/-- 51_apu.md R412 to R416 in whole numbers: the timer, the envelope, the length counter, the sweep and its target. -/
def Obligations.PulseUnits : Prop :=
  ∀ (ch : Pulse) (w : Channel),
    let period := ch.timerPeriod.toNat
    let change := period / 2 ^ ch.swShift.toNat
    let target := (sweepTarget w ch).toNat
    let commits := ch.swDiv = 0 ∧ ch.swEnabled = true ∧ ch.swShift ≠ 0 ∧ 8 ≤ period ∧ target ≤ 0x7FF
    ch.timerClock = (if ch.timer = 0
      then { ch with timer := ch.timerPeriod, seq := BitVec.ofNat 8 (2 * ch.seq.toNat + ch.seq.toNat / 128) }
      else { ch with timer := BitVec.ofNat 11 (ch.timer.toNat - 1) }) ∧
    ch.envelopeStep = (if ch.envStart = true then { ch with envStart := false, envDecay := 15, envDiv := ch.volume }
      else if ch.envDiv ≠ 0 then { ch with envDiv := BitVec.ofNat 4 (ch.envDiv.toNat - 1) }
      else { ch with
        envDiv := ch.volume,
        envDecay := if ch.envDecay ≠ 0 then BitVec.ofNat 4 (ch.envDecay.toNat - 1) else if ch.halt = true then 15 else 0 }) ∧
    ch.lengthStep = { ch with
      length := if ch.halt = true then ch.length else BitVec.ofNat 8 (ch.length.toNat - 1) } ∧
    target = (if ch.swNegate = false then period + change
      else match w with
        | .p1 => period - change - 1
        | .p2 => period - change) ∧
    (ch.sweepStep w).timerPeriod = (if commits then BitVec.ofNat 11 target else ch.timerPeriod) ∧
    ch.sweepStep w = { ch with
      timerPeriod := (ch.sweepStep w).timerPeriod,
      swDiv := if ch.swDiv = 0 ∨ ch.swReload = true then ch.swPeriod else BitVec.ofNat 3 (ch.swDiv.toNat - 1),
      swReload := if ch.swDiv = 0 then false else if ch.swReload = true then false else ch.swReload }

/-- 51_apu.md R420 and R421: a pulse channel is silent below a period of 8, with its length counter at 0, disabled, or with its sweep
target above 0x7FF, and otherwise gives its volume or envelope level on the sequencer's top bit; the sample is the floor of 255
times the printed mixing formula, exactly, and 0 for silence. -/
def Obligations.PulseOutputAndSample : Prop :=
  (∀ (ch : Pulse) (w : Channel),
    let silent := ch.timerPeriod.toNat < 8 ∨ ch.length.toNat = 0 ∨ ch.enabled = false ∨ 0x7FF < (sweepTarget w ch).toNat
    pulseOut w ch ≤ 15 ∧ (silent → pulseOut w ch = 0) ∧
    (¬ silent → pulseOut w ch =
      ch.seq.toNat / 128 * (if ch.constVol = true then ch.volume.toNat else ch.envDecay.toNat))) ∧
  (∀ a : Apu,
    let n := pulseOut .p1 a.p1 + pulseOut .p2 a.p2
    n ≤ 30 ∧ a.sample ≤ 65 ∧
    (n = 0 → a.sample = 0) ∧
    (n ≠ 0 → (a.sample : Int) = ⌊(255 : ℚ) * (95.88 / (8128 / (n : ℚ) + 100))⌋))

/-- 51_apu.md R402 to R408, with the tables of R410 and R411: the effect of every APU register write and the status read. -/
def Obligations.ApuRegisters : Prop :=
  ∀ (a : Apu) (ch : Pulse) (v : Byte),
    let n := v.toNat
    let pattern (d : Nat) : Byte := [0x40, 0x60, 0x78, 0x9F].getD d 0
    ch.writeReg 0 v = { ch with
      duty := BitVec.ofNat 2 (n / 64), halt := decide (n / 32 % 2 = 1), constVol := decide (n / 16 % 2 = 1),
      volume := BitVec.ofNat 4 (n % 16), seq := pattern (n / 64) } ∧
    ch.writeReg 1 v = { ch with
      swEnabled := decide (n / 128 = 1), swPeriod := BitVec.ofNat 3 (n / 16 % 8), swNegate := decide (n / 8 % 2 = 1),
      swShift := BitVec.ofNat 3 (n % 8), swReload := true } ∧
    ch.writeReg 2 v = { ch with timerPeriod := BitVec.ofNat 11 (ch.timerPeriod.toNat / 256 * 256 + n) } ∧
    ch.writeReg 3 v = { ch with
      timerPeriod := BitVec.ofNat 11 (n % 8 * 256 + ch.timerPeriod.toNat % 256),
      length := if ch.enabled = true then [10, 254, 20, 2, 40, 4, 80, 6, 160, 8, 60, 10, 14, 12, 26, 14, 12, 16, 24, 18, 48, 20, 96,
        22, 192, 24, 72, 26, 16, 28, 32, 30].getD (n / 8) 0 else ch.length,
      seq := pattern ch.duty.toNat, envStart := true } ∧
    a.writeStatus v = { a with
      p1 := { a.p1 with enabled := decide (n % 2 = 1), length := if n % 2 = 1 then a.p1.length else 0 },
      p2 := { a.p2 with enabled := decide (n / 2 % 2 = 1), length := if n / 2 % 2 = 1 then a.p2.length else 0 } } ∧
    a.readStatus.toNat = (if a.p1.length.toNat = 0 then 0 else 1) + (if a.p2.length.toNat = 0 then 0 else 2) ∧
    a.writeFrameCounter v = (if n < 128 then { a with fsMode := false, fsCycle := 0 }
      else { a with
        fsMode := true, fsCycle := 0,
        p1 := a.p1.envelopeStep.lengthStep.sweepStep .p1, p2 := a.p2.envelopeStep.lengthStep.sweepStep .p2 })

/-- 51_apu.md R401, R423 and R424: an APU tick counts the frame sequencer up, wraps it, runs the quarter-frame and the half-frame
units of both channels exactly at the listed counts of the TV system and mode, and clocks the pulse timers on every second call.
After `n` ticks from 0 the counter is `n` modulo the wrap value. -/
def Obligations.ApuTick : Prop :=
  (∀ (tv : TvSystem) (a : Apu),
    let mode5 := a.fsMode = true
    let quarter := if tv = .ntsc then [7457, 22371] else [8313, 24939]
    let both := if tv = .ntsc then (if mode5 then [14913, 37281] else [14913, 29829])
      else (if mode5 then [16627, 41565] else [16627, 33253])
    let wrap := if tv = .ntsc then (if mode5 then 37282 else 29830) else (if mode5 then 41566 else 33254)
    let count := a.fsCycle + 1
    let unit (w : Channel) (ch : Pulse) : Pulse :=
      if count ∈ quarter then ch.envelopeStep
      else if count ∈ both then ch.envelopeStep.lengthStep.sweepStep w
      else ch
    let clocked (ch : Pulse) : Pulse := if a.half = true then ch.timerClock else ch
    a.tick tv = { a with
      p1 := clocked (unit .p1 a.p1), p2 := clocked (unit .p2 a.p2), fsCycle := if count = wrap then 0 else count,
      half := !a.half }) ∧
  (∀ (tv : TvSystem) (a : Apu) (n : Nat), a.fsCycle = 0 → ((Apu.tick tv)^[n] a).fsCycle = n % frameWrap tv a.fsMode)

/-! Power-up, reset and loading. -/

/-- From 70_reset_and_hazards.md R521 to R526 and 10_state.md R44: the machine that power-up leaves over any launch contents of the
memories it keeps, the mapper registers and the mirroring included, and what a reset changes and keeps. The model's own choices in
it: both keep the model's count of free values (DESIGN CHOICE of form, notes/assumptions/3.md), and power-up takes the launch
memories as an argument (DESIGN CHOICE of form, notes/assumptions/10.md). The mode, effective address and page-crossed latch, which
R521 calls unspecified, are left open here (notes/assumptions/4.md). -/
def Obligations.PowerUpAndReset : Prop :=
  ∀ (launch : LaunchMemory) (s : State),
    let m : Mapper := Mapper.powerUp s.cfg.header
    let t := powerUpState launch s
    let u := warmResetState s
    let silent : Pulse := ⟨false, 0, 0, 0, 0, 0, false, false, 0, 0, false, 0, false, 0, false, 0, 0, false⟩
    let cleared : Memory := (List.range 32).map (fun k => (k, 0xFF#8))
    t = { s with
      cpu := {
        a := 0, x := 0, y := 0, sp := 0xFD, p := ⟨false, false, true, false, false, false, false⟩,
        pc := wordOf (cpuRead 0xFFFD { s with mapper := m }).1 (cpuRead 0xFFFC { s with mapper := m }).1,
        countdown := 7, nmiPending := false, dmaPending := false, fault := none,
        mode := t.cpu.mode, ea := t.cpu.ea, pageCrossed := t.cpu.pageCrossed },
      ppu := {
        ctrl := 0, mask := 0, vblank := false, spr0Hit := false, overflow := false, t := 0, v := 0, x := 0, w := false,
        oamAddr := 0, readBuffer := 0, dot := 0, scanline := 0, oddFrame := false, suppressVbl := false,
        nt := launch.nt, palette := launch.palette, oam := launch.oam, lineSpr := launch.lineSpr, secOam := cleared,
        evN := 0, evM := 0, evFound := 0, evLatch := 0, evSpr0 := false, evPhase := .done, lineCount := 0, lineSpr0 := false,
        fb := [], doneFb := [], frameReady := false },
      apu := ⟨silent, silent, 0, false, false⟩,
      mapper := m, ram := launch.ram, prgRam := launch.prgRam, chrRam := launch.chrRam,
      sys := { s.sys with master := 0, ctrlShift := 0, ctrlStrobe := false, phase := .running } } ∧
    packedFlags t.cpu.p true = 0x34 ∧ t.apu.sample = 0 ∧
    m.mmc1Control = 0x0C ∧ m.mmc1Shift = 0 ∧ m.mmc1Count = 0 ∧ m.mmc1Chr0 = 0 ∧ m.mmc1Chr1 = 0 ∧ m.mmc1Prg = 0 ∧
    m.uxromBank = 0 ∧ m.axromBank = 0 ∧
    (s.cfg.header.mapper = .nrom ∨ s.cfg.header.mapper = .uxrom → m.mirroring = s.cfg.header.mirroring) ∧
    (s.cfg.header.mapper = .mmc1 ∨ s.cfg.header.mapper = .axrom → m.mirroring = .oneScreenLow) ∧
    u = { s with
      cpu := { s.cpu with
        sp := BitVec.ofNat 8 (s.cpu.sp.toNat + 253), p := { s.cpu.p with i := true },
        pc := wordOf (cpuRead 0xFFFD s).1 (cpuRead 0xFFFC s).1,
        countdown := 7, nmiPending := false, dmaPending := false, fault := none,
        mode := u.cpu.mode, ea := u.cpu.ea, pageCrossed := u.cpu.pageCrossed },
      ppu := { s.ppu with
        ctrl := 0, mask := 0, vblank := false, spr0Hit := false, overflow := false, t := 0, x := 0, w := false,
        readBuffer := 0, dot := 0, scanline := 0, oddFrame := false, suppressVbl := false, frameReady := false,
        secOam := cleared, evN := 0, evM := 0, evFound := 0, evLatch := 0, evSpr0 := false, evPhase := .done, lineCount := 0,
        lineSpr0 := false },
      apu := { s.apu with
        p1 := { s.apu.p1 with enabled := false, length := 0 }, p2 := { s.apu.p2 with enabled := false, length := 0 },
        fsCycle := 0, half := false },
      sys := { s.sys with master := 0, ctrlShift := 0, ctrlStrobe := false, phase := .running } }

/-- 21_mappers.md R120 to R125: the fields of a header with the right magic, the mapper by its number with 71 remapped, and no
header without the magic; and the machine after reset is the power-up of the image of 70_reset_and_hazards.md R530 with its
vector at 0xC000 (its other bytes and the launch memories zero, the model's choice: notes/assumptions/1.md, 2.md). -/
def Obligations.HeaderAndResetImage : Prop :=
  (∀ (b4 b5 b6 b7 b8 b9 b10 b11 b12 b13 b14 b15 : Byte) (rest : List Byte),
    let m := b7.toNat / 16 * 16 + b6.toNat / 16
    parseHeader ([0x4E, 0x45, 0x53, 0x1A, b4, b5, b6, b7, b8, b9, b10, b11, b12, b13, b14, b15] ++ rest) = some
      ({ prgUnits := b4.toNat, chrUnits := b5.toNat, prgRamUnits := b8.toNat,
         mapper := if m = 0 then .nrom else if m = 1 then .mmc1 else if m = 2 then .uxrom else if m = 71 then .uxrom
           else if m = 7 then .axrom else .unsupported,
         mirroring := if b6.toNat / 8 % 2 = 1 then .fourScreen else if b6.toNat % 2 = 1 then .vertical else .horizontal,
         tv := if b9.toNat % 2 = 1 then .pal else .ntsc,
         trainer := decide (b6.toNat / 4 % 2 = 1), nes2 := decide (b7.toNat / 4 % 4 = 2),
         persistent := decide (b6.toNat / 2 % 2 = 1), vsUnisystem := decide (b7.toNat % 2 = 1),
         playChoice := decide (b7.toNat / 2 % 2 = 1), reserved := [b10, b11, b12, b13, b14, b15] }, m)) ∧
  (∀ image : List Byte, image.take 4 ≠ [0x4E, 0x45, 0x53, 0x1A] → parseHeader image = none) ∧
  (State.reset.cpu.pc = 0xC000 ∧
    State.reset = powerUpState ⟨[], [], [], [], [], [], []⟩
      { State.created with cfg := CartConfig.scenarioOne, sys := { State.created.sys with phase := .loaded } })

end
end

