-- ==== Sys2Proof/Laws/Memory.lean ====
section
/-! SUPPORT. The laws of byte memories: what a write does to every read, that a write keeps the canonical form, and that two
canonical memories that read alike are equal. -/

namespace Sys2Proof.Machine

theorem Memory.read_nil (a : Nat) : Memory.read [] a = Memory.unlisted := rfl

theorem Memory.read_erase (m : Memory) (a b : Nat) :
    (m.erase a).read b = if b = a then Memory.unlisted else m.read b := by
  induction m with
  | nil => simp [Memory.erase, Memory.read]
  | cons c rest ih =>
    obtain ⟨k, v⟩ := c
    by_cases hk : k = a
    · subst hk
      by_cases hb : b = k
      · subst hb
        simpa [Memory.erase] using ih
      · simp [Memory.erase, Memory.read, ih, hb, Ne.symm hb]
    · by_cases hb : k = b
      · subst hb; simp [Memory.erase, Memory.read, hk]
      · simp [Memory.erase, Memory.read, hk, hb, ih]

theorem Memory.read_insert_other (m : Memory) (a b : Nat) (v : Byte) (hb : b ≠ a) :
    (m.insert a v).read b = m.read b := by
  induction m with
  | nil => simp [Memory.insert, Memory.read, Ne.symm hb]
  | cons c rest ih =>
    obtain ⟨k, w⟩ := c
    by_cases hlt : a < k
    · simp [Memory.insert, hlt, Memory.read, Ne.symm hb]
    · simp only [Memory.insert, hlt, if_false, Memory.read, ih]

theorem Memory.keys_erase (m : Memory) (a : Nat) : ∀ c ∈ m.erase a, c.1 ≠ a := by
  induction m with
  | nil => simp [Memory.erase]
  | cons c rest ih =>
    obtain ⟨k, v⟩ := c
    by_cases hk : k = a
    · simpa [Memory.erase, hk] using ih
    · intro d hd
      simp only [Memory.erase, hk, if_false, List.mem_cons] at hd
      rcases hd with rfl | hd
      · exact hk
      · exact ih d hd

theorem Memory.read_insert_new (m : Memory) (a : Nat) (v : Byte) (h : ∀ c ∈ m, c.1 ≠ a) : (m.insert a v).read a = v := by
  induction m with
  | nil => simp [Memory.insert, Memory.read]
  | cons c rest ih =>
    obtain ⟨k, w⟩ := c
    have hk : k ≠ a := h (k, w) (by simp)
    by_cases hlt : a < k
    · simp [Memory.insert, hlt, Memory.read]
    · simp [Memory.insert, hlt, Memory.read, hk, ih (fun c hc => h c (by simp [hc]))]

/-- A read after a write: the byte written at its address, the old byte everywhere else. -/
@[simp] theorem Memory.read_write (m : Memory) (a b : Nat) (v : Byte) :
    (m.write a v).read b = if b = a then v else m.read b := by
  unfold Memory.write
  split
  · next h => rw [Memory.read_erase]; simp [h]
  · split
    · next h => subst h; exact Memory.read_insert_new _ _ _ (Memory.keys_erase m b)
    · next h => rw [Memory.read_insert_other _ _ _ _ h, Memory.read_erase]; simp [h]

theorem Memory.wfAbove_mono {l l' : Nat} (m : Memory) (h : l' ≤ l) (hm : Memory.wfAbove l m = true) :
    Memory.wfAbove l' m = true := by
  cases m with
  | nil => rfl
  | cons c rest =>
    obtain ⟨k, v⟩ := c
    simp only [Memory.wfAbove, Bool.and_eq_true, decide_eq_true_eq] at hm ⊢
    exact ⟨⟨by omega, hm.1.2⟩, hm.2⟩

theorem Memory.wfAbove_erase (m : Memory) (l a : Nat) (hm : Memory.wfAbove l m = true) :
    Memory.wfAbove l (m.erase a) = true := by
  induction m generalizing l with
  | nil => rfl
  | cons c rest ih =>
    obtain ⟨k, v⟩ := c
    simp only [Memory.wfAbove, Bool.and_eq_true, decide_eq_true_eq] at hm
    by_cases hk : k = a
    · simp only [Memory.erase, hk, if_true]
      exact ih l (Memory.wfAbove_mono rest (by omega) hm.2)
    · simp only [Memory.erase, hk, if_false, Memory.wfAbove, Bool.and_eq_true, decide_eq_true_eq]
      exact ⟨hm.1, ih _ hm.2⟩

theorem Memory.wfAbove_insert (m : Memory) (l a : Nat) (v : Byte) (hm : Memory.wfAbove l m = true) (hl : l ≤ a)
    (hv : v ≠ Memory.unlisted) (hk : ∀ c ∈ m, c.1 ≠ a) : Memory.wfAbove l (m.insert a v) = true := by
  induction m generalizing l with
  | nil => simp [Memory.insert, Memory.wfAbove, hl, hv]
  | cons c rest ih =>
    obtain ⟨k, w⟩ := c
    simp only [Memory.wfAbove, Bool.and_eq_true, decide_eq_true_eq] at hm
    by_cases hlt : a < k
    · simp only [Memory.insert, hlt, if_true, Memory.wfAbove, Bool.and_eq_true, decide_eq_true_eq]
      exact ⟨⟨hl, hv⟩, ⟨by omega, hm.1.2⟩, hm.2⟩
    · have hne : k ≠ a := hk (k, w) (by simp)
      simp only [Memory.insert, hlt, if_false, Memory.wfAbove, Bool.and_eq_true, decide_eq_true_eq]
      exact ⟨hm.1, ih _ hm.2 (by omega) (fun c hc => hk c (by simp [hc]))⟩

theorem Memory.below_erase (m : Memory) (n a : Nat) (h : Memory.below n m = true) : Memory.below n (m.erase a) = true := by
  induction m with
  | nil => rfl
  | cons c rest ih =>
    obtain ⟨k, v⟩ := c
    simp only [Memory.below, List.all_cons, Bool.and_eq_true] at h ih ⊢
    by_cases hk : k = a
    · simpa [Memory.erase, hk] using ih h.2
    · simp only [Memory.erase, hk, if_false, List.all_cons, Bool.and_eq_true]
      exact ⟨h.1, ih h.2⟩

theorem Memory.below_insert (m : Memory) (n a : Nat) (v : Byte) (h : Memory.below n m = true) (ha : a < n) :
    Memory.below n (m.insert a v) = true := by
  induction m with
  | nil => simp [Memory.insert, Memory.below, ha]
  | cons c rest ih =>
    obtain ⟨k, w⟩ := c
    simp only [Memory.below, List.all_cons, Bool.and_eq_true, decide_eq_true_eq] at h ih ⊢
    by_cases hlt : a < k
    · simp only [Memory.insert, hlt, if_true, List.all_cons, Bool.and_eq_true, decide_eq_true_eq]
      exact ⟨ha, h⟩
    · simp only [Memory.insert, hlt, if_false, List.all_cons, Bool.and_eq_true, decide_eq_true_eq]
      exact ⟨h.1, ih h.2⟩

/-- A write keeps the canonical form, whatever the address. -/
theorem Memory.wf_write (m : Memory) (a : Nat) (v : Byte) (h : Memory.wf m = true) : Memory.wf (m.write a v) = true := by
  unfold Memory.write Memory.wf at *
  split
  · exact Memory.wfAbove_erase m 0 a h
  · next hv => exact Memory.wfAbove_insert _ 0 a v (Memory.wfAbove_erase m 0 a h) (by omega) hv (Memory.keys_erase m a)

theorem Memory.below_write (m : Memory) (n a : Nat) (v : Byte) (h : Memory.below n m = true) (ha : a < n) :
    Memory.below n (m.write a v) = true := by
  unfold Memory.write
  split
  · exact Memory.below_erase m n a h
  · exact Memory.below_insert _ n a v (Memory.below_erase m n a h) ha

/-- A write inside the size keeps the size and the canonical form. -/
theorem Memory.fits_write (m : Memory) (n a : Nat) (v : Byte) (h : Memory.fits n m = true) (ha : a < n) :
    Memory.fits n (m.write a v) = true := by
  simp only [Memory.fits, Bool.and_eq_true] at h ⊢
  exact ⟨Memory.wf_write m a v h.1, Memory.below_write m n a v h.2 ha⟩

theorem Memory.read_below (m : Memory) (l a : Nat) (h : Memory.wfAbove l m = true) (ha : a < l) :
    m.read a = Memory.unlisted := by
  induction m generalizing l with
  | nil => rfl
  | cons c rest ih =>
    obtain ⟨k, v⟩ := c
    simp only [Memory.wfAbove, Bool.and_eq_true, decide_eq_true_eq] at h
    have hk : k ≠ a := by omega
    simp only [Memory.read, hk, if_false]
    exact ih (k + 1) h.2 (by omega)

theorem Memory.ext_above (m m' : Memory) (l : Nat) (h : Memory.wfAbove l m = true) (h' : Memory.wfAbove l m' = true)
    (hr : ∀ a, m.read a = m'.read a) : m = m' := by
  induction m generalizing l m' with
  | nil =>
    cases m' with
    | nil => rfl
    | cons c rest =>
      obtain ⟨k, v⟩ := c
      simp only [Memory.wfAbove, Bool.and_eq_true, decide_eq_true_eq] at h'
      exact absurd (by simpa [Memory.read] using (hr k).symm) h'.1.2
  | cons c rest ih =>
    obtain ⟨k, v⟩ := c
    simp only [Memory.wfAbove, Bool.and_eq_true, decide_eq_true_eq] at h
    cases m' with
    | nil => exact absurd (by simpa [Memory.read] using hr k) h.1.2
    | cons c' rest' =>
      obtain ⟨k', v'⟩ := c'
      simp only [Memory.wfAbove, Bool.and_eq_true, decide_eq_true_eq] at h'
      have hkk : k = k' := by
        rcases Nat.lt_trichotomy k k' with hlt | heq | hgt
        · exfalso
          have hne : k' ≠ k := by omega
          have := hr k
          simp only [Memory.read, hne, if_true, if_false] at this
          rw [Memory.read_below rest' (k' + 1) k h'.2 (by omega)] at this
          exact h.1.2 this
        · exact heq
        · exfalso
          have hne : k ≠ k' := by omega
          have := hr k'
          simp only [Memory.read, hne, if_true, if_false] at this
          rw [Memory.read_below rest (k + 1) k' h.2 (by omega)] at this
          exact h'.1.2 this.symm
      subst hkk
      have hv : v = v' := by simpa [Memory.read] using hr k
      subst hv
      congr 1
      refine ih rest' (k + 1) h.2 h'.2 (fun a => ?_)
      by_cases ha : k = a
      · subst ha
        rw [Memory.read_below rest (k + 1) k h.2 (by omega), Memory.read_below rest' (k + 1) k h'.2 (by omega)]
      · simpa [Memory.read, ha] using hr a

/-- Canonical memories that read alike are equal. -/
theorem Memory.ext (m m' : Memory) (h : Memory.wf m = true) (h' : Memory.wf m' = true)
    (hr : ∀ a, m.read a = m'.read a) : m = m' := Memory.ext_above m m' 0 h h' hr

/-- Bytes laid out from an address on are canonical. -/
theorem Memory.wf_ofBytesFrom (bs : List Byte) (a : Nat) : Memory.wfAbove a (Memory.ofBytesFrom a bs) = true := by
  induction bs generalizing a with
  | nil => rfl
  | cons v rest ih =>
    unfold Memory.ofBytesFrom
    split
    · exact Memory.wfAbove_mono _ (by omega) (ih (a + 1))
    · next hv => simp [Memory.wfAbove, hv, ih (a + 1)]

end Sys2Proof.Machine
end

