-- ==== Sys2Proof/Laws/State.lean ====
section
/-! SUPPORT. What each update of Machine/Access.lean does to each field of the state: one lemma per update and field. A later proof
cites these and unfolds no update. -/

namespace Sys2Proof.Machine

@[simp] theorem State.setA_cpu (s : State) (v : Byte) : (s.setA v).cpu = { s.cpu with a := v } := rfl
@[simp] theorem State.setA_ppu (s : State) (v : Byte) : (s.setA v).ppu = s.ppu := rfl
@[simp] theorem State.setA_apu (s : State) (v : Byte) : (s.setA v).apu = s.apu := rfl
@[simp] theorem State.setA_mapper (s : State) (v : Byte) : (s.setA v).mapper = s.mapper := rfl
@[simp] theorem State.setA_cfg (s : State) (v : Byte) : (s.setA v).cfg = s.cfg := rfl
@[simp] theorem State.setA_prgRam (s : State) (v : Byte) : (s.setA v).prgRam = s.prgRam := rfl
@[simp] theorem State.setA_chrRam (s : State) (v : Byte) : (s.setA v).chrRam = s.chrRam := rfl
@[simp] theorem State.setA_ram (s : State) (v : Byte) : (s.setA v).ram = s.ram := rfl
@[simp] theorem State.setA_sys (s : State) (v : Byte) : (s.setA v).sys = s.sys := rfl
@[simp] theorem State.setA_draws (s : State) (v : Byte) : (s.setA v).draws = s.draws := rfl

@[simp] theorem State.setX_cpu (s : State) (v : Byte) : (s.setX v).cpu = { s.cpu with x := v } := rfl
@[simp] theorem State.setX_ppu (s : State) (v : Byte) : (s.setX v).ppu = s.ppu := rfl
@[simp] theorem State.setX_apu (s : State) (v : Byte) : (s.setX v).apu = s.apu := rfl
@[simp] theorem State.setX_mapper (s : State) (v : Byte) : (s.setX v).mapper = s.mapper := rfl
@[simp] theorem State.setX_cfg (s : State) (v : Byte) : (s.setX v).cfg = s.cfg := rfl
@[simp] theorem State.setX_prgRam (s : State) (v : Byte) : (s.setX v).prgRam = s.prgRam := rfl
@[simp] theorem State.setX_chrRam (s : State) (v : Byte) : (s.setX v).chrRam = s.chrRam := rfl
@[simp] theorem State.setX_ram (s : State) (v : Byte) : (s.setX v).ram = s.ram := rfl
@[simp] theorem State.setX_sys (s : State) (v : Byte) : (s.setX v).sys = s.sys := rfl
@[simp] theorem State.setX_draws (s : State) (v : Byte) : (s.setX v).draws = s.draws := rfl

@[simp] theorem State.setY_cpu (s : State) (v : Byte) : (s.setY v).cpu = { s.cpu with y := v } := rfl
@[simp] theorem State.setY_ppu (s : State) (v : Byte) : (s.setY v).ppu = s.ppu := rfl
@[simp] theorem State.setY_apu (s : State) (v : Byte) : (s.setY v).apu = s.apu := rfl
@[simp] theorem State.setY_mapper (s : State) (v : Byte) : (s.setY v).mapper = s.mapper := rfl
@[simp] theorem State.setY_cfg (s : State) (v : Byte) : (s.setY v).cfg = s.cfg := rfl
@[simp] theorem State.setY_prgRam (s : State) (v : Byte) : (s.setY v).prgRam = s.prgRam := rfl
@[simp] theorem State.setY_chrRam (s : State) (v : Byte) : (s.setY v).chrRam = s.chrRam := rfl
@[simp] theorem State.setY_ram (s : State) (v : Byte) : (s.setY v).ram = s.ram := rfl
@[simp] theorem State.setY_sys (s : State) (v : Byte) : (s.setY v).sys = s.sys := rfl
@[simp] theorem State.setY_draws (s : State) (v : Byte) : (s.setY v).draws = s.draws := rfl

@[simp] theorem State.setSp_cpu (s : State) (v : Byte) : (s.setSp v).cpu = { s.cpu with sp := v } := rfl
@[simp] theorem State.setSp_ppu (s : State) (v : Byte) : (s.setSp v).ppu = s.ppu := rfl
@[simp] theorem State.setSp_apu (s : State) (v : Byte) : (s.setSp v).apu = s.apu := rfl
@[simp] theorem State.setSp_mapper (s : State) (v : Byte) : (s.setSp v).mapper = s.mapper := rfl
@[simp] theorem State.setSp_cfg (s : State) (v : Byte) : (s.setSp v).cfg = s.cfg := rfl
@[simp] theorem State.setSp_prgRam (s : State) (v : Byte) : (s.setSp v).prgRam = s.prgRam := rfl
@[simp] theorem State.setSp_chrRam (s : State) (v : Byte) : (s.setSp v).chrRam = s.chrRam := rfl
@[simp] theorem State.setSp_ram (s : State) (v : Byte) : (s.setSp v).ram = s.ram := rfl
@[simp] theorem State.setSp_sys (s : State) (v : Byte) : (s.setSp v).sys = s.sys := rfl
@[simp] theorem State.setSp_draws (s : State) (v : Byte) : (s.setSp v).draws = s.draws := rfl

@[simp] theorem State.setPc_cpu (s : State) (v : Addr) : (s.setPc v).cpu = { s.cpu with pc := v } := rfl
@[simp] theorem State.setPc_ppu (s : State) (v : Addr) : (s.setPc v).ppu = s.ppu := rfl
@[simp] theorem State.setPc_apu (s : State) (v : Addr) : (s.setPc v).apu = s.apu := rfl
@[simp] theorem State.setPc_mapper (s : State) (v : Addr) : (s.setPc v).mapper = s.mapper := rfl
@[simp] theorem State.setPc_cfg (s : State) (v : Addr) : (s.setPc v).cfg = s.cfg := rfl
@[simp] theorem State.setPc_prgRam (s : State) (v : Addr) : (s.setPc v).prgRam = s.prgRam := rfl
@[simp] theorem State.setPc_chrRam (s : State) (v : Addr) : (s.setPc v).chrRam = s.chrRam := rfl
@[simp] theorem State.setPc_ram (s : State) (v : Addr) : (s.setPc v).ram = s.ram := rfl
@[simp] theorem State.setPc_sys (s : State) (v : Addr) : (s.setPc v).sys = s.sys := rfl
@[simp] theorem State.setPc_draws (s : State) (v : Addr) : (s.setPc v).draws = s.draws := rfl

@[simp] theorem State.setP_cpu (s : State) (v : Flags) : (s.setP v).cpu = { s.cpu with p := v } := rfl
@[simp] theorem State.setP_ppu (s : State) (v : Flags) : (s.setP v).ppu = s.ppu := rfl
@[simp] theorem State.setP_apu (s : State) (v : Flags) : (s.setP v).apu = s.apu := rfl
@[simp] theorem State.setP_mapper (s : State) (v : Flags) : (s.setP v).mapper = s.mapper := rfl
@[simp] theorem State.setP_cfg (s : State) (v : Flags) : (s.setP v).cfg = s.cfg := rfl
@[simp] theorem State.setP_prgRam (s : State) (v : Flags) : (s.setP v).prgRam = s.prgRam := rfl
@[simp] theorem State.setP_chrRam (s : State) (v : Flags) : (s.setP v).chrRam = s.chrRam := rfl
@[simp] theorem State.setP_ram (s : State) (v : Flags) : (s.setP v).ram = s.ram := rfl
@[simp] theorem State.setP_sys (s : State) (v : Flags) : (s.setP v).sys = s.sys := rfl
@[simp] theorem State.setP_draws (s : State) (v : Flags) : (s.setP v).draws = s.draws := rfl

@[simp] theorem State.setCountdown_cpu (s : State) (v : Nat) : (s.setCountdown v).cpu = { s.cpu with countdown := v } := rfl
@[simp] theorem State.setCountdown_ppu (s : State) (v : Nat) : (s.setCountdown v).ppu = s.ppu := rfl
@[simp] theorem State.setCountdown_apu (s : State) (v : Nat) : (s.setCountdown v).apu = s.apu := rfl
@[simp] theorem State.setCountdown_mapper (s : State) (v : Nat) : (s.setCountdown v).mapper = s.mapper := rfl
@[simp] theorem State.setCountdown_cfg (s : State) (v : Nat) : (s.setCountdown v).cfg = s.cfg := rfl
@[simp] theorem State.setCountdown_prgRam (s : State) (v : Nat) : (s.setCountdown v).prgRam = s.prgRam := rfl
@[simp] theorem State.setCountdown_chrRam (s : State) (v : Nat) : (s.setCountdown v).chrRam = s.chrRam := rfl
@[simp] theorem State.setCountdown_ram (s : State) (v : Nat) : (s.setCountdown v).ram = s.ram := rfl
@[simp] theorem State.setCountdown_sys (s : State) (v : Nat) : (s.setCountdown v).sys = s.sys := rfl
@[simp] theorem State.setCountdown_draws (s : State) (v : Nat) : (s.setCountdown v).draws = s.draws := rfl

@[simp] theorem State.latch_cpu (s : State) (m : AddrMode) (ea : Addr) (c : Bool) : (s.latch m ea c).cpu = { s.cpu with mode := m, ea := ea, pageCrossed := c } := rfl
@[simp] theorem State.latch_ppu (s : State) (m : AddrMode) (ea : Addr) (c : Bool) : (s.latch m ea c).ppu = s.ppu := rfl
@[simp] theorem State.latch_apu (s : State) (m : AddrMode) (ea : Addr) (c : Bool) : (s.latch m ea c).apu = s.apu := rfl
@[simp] theorem State.latch_mapper (s : State) (m : AddrMode) (ea : Addr) (c : Bool) : (s.latch m ea c).mapper = s.mapper := rfl
@[simp] theorem State.latch_cfg (s : State) (m : AddrMode) (ea : Addr) (c : Bool) : (s.latch m ea c).cfg = s.cfg := rfl
@[simp] theorem State.latch_prgRam (s : State) (m : AddrMode) (ea : Addr) (c : Bool) : (s.latch m ea c).prgRam = s.prgRam := rfl
@[simp] theorem State.latch_chrRam (s : State) (m : AddrMode) (ea : Addr) (c : Bool) : (s.latch m ea c).chrRam = s.chrRam := rfl
@[simp] theorem State.latch_ram (s : State) (m : AddrMode) (ea : Addr) (c : Bool) : (s.latch m ea c).ram = s.ram := rfl
@[simp] theorem State.latch_sys (s : State) (m : AddrMode) (ea : Addr) (c : Bool) : (s.latch m ea c).sys = s.sys := rfl
@[simp] theorem State.latch_draws (s : State) (m : AddrMode) (ea : Addr) (c : Bool) : (s.latch m ea c).draws = s.draws := rfl

@[simp] theorem State.setNmi_cpu (s : State) (v : Bool) : (s.setNmi v).cpu = { s.cpu with nmiPending := v } := rfl
@[simp] theorem State.setNmi_ppu (s : State) (v : Bool) : (s.setNmi v).ppu = s.ppu := rfl
@[simp] theorem State.setNmi_apu (s : State) (v : Bool) : (s.setNmi v).apu = s.apu := rfl
@[simp] theorem State.setNmi_mapper (s : State) (v : Bool) : (s.setNmi v).mapper = s.mapper := rfl
@[simp] theorem State.setNmi_cfg (s : State) (v : Bool) : (s.setNmi v).cfg = s.cfg := rfl
@[simp] theorem State.setNmi_prgRam (s : State) (v : Bool) : (s.setNmi v).prgRam = s.prgRam := rfl
@[simp] theorem State.setNmi_chrRam (s : State) (v : Bool) : (s.setNmi v).chrRam = s.chrRam := rfl
@[simp] theorem State.setNmi_ram (s : State) (v : Bool) : (s.setNmi v).ram = s.ram := rfl
@[simp] theorem State.setNmi_sys (s : State) (v : Bool) : (s.setNmi v).sys = s.sys := rfl
@[simp] theorem State.setNmi_draws (s : State) (v : Bool) : (s.setNmi v).draws = s.draws := rfl

@[simp] theorem State.setDma_cpu (s : State) (v : Bool) : (s.setDma v).cpu = { s.cpu with dmaPending := v } := rfl
@[simp] theorem State.setDma_ppu (s : State) (v : Bool) : (s.setDma v).ppu = s.ppu := rfl
@[simp] theorem State.setDma_apu (s : State) (v : Bool) : (s.setDma v).apu = s.apu := rfl
@[simp] theorem State.setDma_mapper (s : State) (v : Bool) : (s.setDma v).mapper = s.mapper := rfl
@[simp] theorem State.setDma_cfg (s : State) (v : Bool) : (s.setDma v).cfg = s.cfg := rfl
@[simp] theorem State.setDma_prgRam (s : State) (v : Bool) : (s.setDma v).prgRam = s.prgRam := rfl
@[simp] theorem State.setDma_chrRam (s : State) (v : Bool) : (s.setDma v).chrRam = s.chrRam := rfl
@[simp] theorem State.setDma_ram (s : State) (v : Bool) : (s.setDma v).ram = s.ram := rfl
@[simp] theorem State.setDma_sys (s : State) (v : Bool) : (s.setDma v).sys = s.sys := rfl
@[simp] theorem State.setDma_draws (s : State) (v : Bool) : (s.setDma v).draws = s.draws := rfl

@[simp] theorem State.setFault_cpu (s : State) (v : Option IllegalOpcode) : (s.setFault v).cpu = { s.cpu with fault := v } := rfl
@[simp] theorem State.setFault_ppu (s : State) (v : Option IllegalOpcode) : (s.setFault v).ppu = s.ppu := rfl
@[simp] theorem State.setFault_apu (s : State) (v : Option IllegalOpcode) : (s.setFault v).apu = s.apu := rfl
@[simp] theorem State.setFault_mapper (s : State) (v : Option IllegalOpcode) : (s.setFault v).mapper = s.mapper := rfl
@[simp] theorem State.setFault_cfg (s : State) (v : Option IllegalOpcode) : (s.setFault v).cfg = s.cfg := rfl
@[simp] theorem State.setFault_prgRam (s : State) (v : Option IllegalOpcode) : (s.setFault v).prgRam = s.prgRam := rfl
@[simp] theorem State.setFault_chrRam (s : State) (v : Option IllegalOpcode) : (s.setFault v).chrRam = s.chrRam := rfl
@[simp] theorem State.setFault_ram (s : State) (v : Option IllegalOpcode) : (s.setFault v).ram = s.ram := rfl
@[simp] theorem State.setFault_sys (s : State) (v : Option IllegalOpcode) : (s.setFault v).sys = s.sys := rfl
@[simp] theorem State.setFault_draws (s : State) (v : Option IllegalOpcode) : (s.setFault v).draws = s.draws := rfl

@[simp] theorem State.setPhase_cpu (s : State) (v : Phase) : (s.setPhase v).cpu = s.cpu := rfl
@[simp] theorem State.setPhase_ppu (s : State) (v : Phase) : (s.setPhase v).ppu = s.ppu := rfl
@[simp] theorem State.setPhase_apu (s : State) (v : Phase) : (s.setPhase v).apu = s.apu := rfl
@[simp] theorem State.setPhase_mapper (s : State) (v : Phase) : (s.setPhase v).mapper = s.mapper := rfl
@[simp] theorem State.setPhase_cfg (s : State) (v : Phase) : (s.setPhase v).cfg = s.cfg := rfl
@[simp] theorem State.setPhase_prgRam (s : State) (v : Phase) : (s.setPhase v).prgRam = s.prgRam := rfl
@[simp] theorem State.setPhase_chrRam (s : State) (v : Phase) : (s.setPhase v).chrRam = s.chrRam := rfl
@[simp] theorem State.setPhase_ram (s : State) (v : Phase) : (s.setPhase v).ram = s.ram := rfl
@[simp] theorem State.setPhase_sys (s : State) (v : Phase) : (s.setPhase v).sys = { s.sys with phase := v } := rfl
@[simp] theorem State.setPhase_draws (s : State) (v : Phase) : (s.setPhase v).draws = s.draws := rfl

@[simp] theorem State.setPpu_cpu (s : State) (v : Ppu) : (s.setPpu v).cpu = s.cpu := rfl
@[simp] theorem State.setPpu_ppu (s : State) (v : Ppu) : (s.setPpu v).ppu = v := rfl
@[simp] theorem State.setPpu_apu (s : State) (v : Ppu) : (s.setPpu v).apu = s.apu := rfl
@[simp] theorem State.setPpu_mapper (s : State) (v : Ppu) : (s.setPpu v).mapper = s.mapper := rfl
@[simp] theorem State.setPpu_cfg (s : State) (v : Ppu) : (s.setPpu v).cfg = s.cfg := rfl
@[simp] theorem State.setPpu_prgRam (s : State) (v : Ppu) : (s.setPpu v).prgRam = s.prgRam := rfl
@[simp] theorem State.setPpu_chrRam (s : State) (v : Ppu) : (s.setPpu v).chrRam = s.chrRam := rfl
@[simp] theorem State.setPpu_ram (s : State) (v : Ppu) : (s.setPpu v).ram = s.ram := rfl
@[simp] theorem State.setPpu_sys (s : State) (v : Ppu) : (s.setPpu v).sys = s.sys := rfl
@[simp] theorem State.setPpu_draws (s : State) (v : Ppu) : (s.setPpu v).draws = s.draws := rfl

@[simp] theorem State.setApu_cpu (s : State) (v : Apu) : (s.setApu v).cpu = s.cpu := rfl
@[simp] theorem State.setApu_ppu (s : State) (v : Apu) : (s.setApu v).ppu = s.ppu := rfl
@[simp] theorem State.setApu_apu (s : State) (v : Apu) : (s.setApu v).apu = v := rfl
@[simp] theorem State.setApu_mapper (s : State) (v : Apu) : (s.setApu v).mapper = s.mapper := rfl
@[simp] theorem State.setApu_cfg (s : State) (v : Apu) : (s.setApu v).cfg = s.cfg := rfl
@[simp] theorem State.setApu_prgRam (s : State) (v : Apu) : (s.setApu v).prgRam = s.prgRam := rfl
@[simp] theorem State.setApu_chrRam (s : State) (v : Apu) : (s.setApu v).chrRam = s.chrRam := rfl
@[simp] theorem State.setApu_ram (s : State) (v : Apu) : (s.setApu v).ram = s.ram := rfl
@[simp] theorem State.setApu_sys (s : State) (v : Apu) : (s.setApu v).sys = s.sys := rfl
@[simp] theorem State.setApu_draws (s : State) (v : Apu) : (s.setApu v).draws = s.draws := rfl

@[simp] theorem State.setMapper_cpu (s : State) (v : Mapper) : (s.setMapper v).cpu = s.cpu := rfl
@[simp] theorem State.setMapper_ppu (s : State) (v : Mapper) : (s.setMapper v).ppu = s.ppu := rfl
@[simp] theorem State.setMapper_apu (s : State) (v : Mapper) : (s.setMapper v).apu = s.apu := rfl
@[simp] theorem State.setMapper_mapper (s : State) (v : Mapper) : (s.setMapper v).mapper = v := rfl
@[simp] theorem State.setMapper_cfg (s : State) (v : Mapper) : (s.setMapper v).cfg = s.cfg := rfl
@[simp] theorem State.setMapper_prgRam (s : State) (v : Mapper) : (s.setMapper v).prgRam = s.prgRam := rfl
@[simp] theorem State.setMapper_chrRam (s : State) (v : Mapper) : (s.setMapper v).chrRam = s.chrRam := rfl
@[simp] theorem State.setMapper_ram (s : State) (v : Mapper) : (s.setMapper v).ram = s.ram := rfl
@[simp] theorem State.setMapper_sys (s : State) (v : Mapper) : (s.setMapper v).sys = s.sys := rfl
@[simp] theorem State.setMapper_draws (s : State) (v : Mapper) : (s.setMapper v).draws = s.draws := rfl

@[simp] theorem State.setSys_cpu (s : State) (v : Sys) : (s.setSys v).cpu = s.cpu := rfl
@[simp] theorem State.setSys_ppu (s : State) (v : Sys) : (s.setSys v).ppu = s.ppu := rfl
@[simp] theorem State.setSys_apu (s : State) (v : Sys) : (s.setSys v).apu = s.apu := rfl
@[simp] theorem State.setSys_mapper (s : State) (v : Sys) : (s.setSys v).mapper = s.mapper := rfl
@[simp] theorem State.setSys_cfg (s : State) (v : Sys) : (s.setSys v).cfg = s.cfg := rfl
@[simp] theorem State.setSys_prgRam (s : State) (v : Sys) : (s.setSys v).prgRam = s.prgRam := rfl
@[simp] theorem State.setSys_chrRam (s : State) (v : Sys) : (s.setSys v).chrRam = s.chrRam := rfl
@[simp] theorem State.setSys_ram (s : State) (v : Sys) : (s.setSys v).ram = s.ram := rfl
@[simp] theorem State.setSys_sys (s : State) (v : Sys) : (s.setSys v).sys = v := rfl
@[simp] theorem State.setSys_draws (s : State) (v : Sys) : (s.setSys v).draws = s.draws := rfl

@[simp] theorem State.setRam_cpu (s : State) (v : Memory) : (s.setRam v).cpu = s.cpu := rfl
@[simp] theorem State.setRam_ppu (s : State) (v : Memory) : (s.setRam v).ppu = s.ppu := rfl
@[simp] theorem State.setRam_apu (s : State) (v : Memory) : (s.setRam v).apu = s.apu := rfl
@[simp] theorem State.setRam_mapper (s : State) (v : Memory) : (s.setRam v).mapper = s.mapper := rfl
@[simp] theorem State.setRam_cfg (s : State) (v : Memory) : (s.setRam v).cfg = s.cfg := rfl
@[simp] theorem State.setRam_prgRam (s : State) (v : Memory) : (s.setRam v).prgRam = s.prgRam := rfl
@[simp] theorem State.setRam_chrRam (s : State) (v : Memory) : (s.setRam v).chrRam = s.chrRam := rfl
@[simp] theorem State.setRam_ram (s : State) (v : Memory) : (s.setRam v).ram = v := rfl
@[simp] theorem State.setRam_sys (s : State) (v : Memory) : (s.setRam v).sys = s.sys := rfl
@[simp] theorem State.setRam_draws (s : State) (v : Memory) : (s.setRam v).draws = s.draws := rfl

@[simp] theorem State.setPrgRam_cpu (s : State) (v : Memory) : (s.setPrgRam v).cpu = s.cpu := rfl
@[simp] theorem State.setPrgRam_ppu (s : State) (v : Memory) : (s.setPrgRam v).ppu = s.ppu := rfl
@[simp] theorem State.setPrgRam_apu (s : State) (v : Memory) : (s.setPrgRam v).apu = s.apu := rfl
@[simp] theorem State.setPrgRam_mapper (s : State) (v : Memory) : (s.setPrgRam v).mapper = s.mapper := rfl
@[simp] theorem State.setPrgRam_cfg (s : State) (v : Memory) : (s.setPrgRam v).cfg = s.cfg := rfl
@[simp] theorem State.setPrgRam_prgRam (s : State) (v : Memory) : (s.setPrgRam v).prgRam = v := rfl
@[simp] theorem State.setPrgRam_chrRam (s : State) (v : Memory) : (s.setPrgRam v).chrRam = s.chrRam := rfl
@[simp] theorem State.setPrgRam_ram (s : State) (v : Memory) : (s.setPrgRam v).ram = s.ram := rfl
@[simp] theorem State.setPrgRam_sys (s : State) (v : Memory) : (s.setPrgRam v).sys = s.sys := rfl
@[simp] theorem State.setPrgRam_draws (s : State) (v : Memory) : (s.setPrgRam v).draws = s.draws := rfl

@[simp] theorem State.setChrRam_cpu (s : State) (v : Memory) : (s.setChrRam v).cpu = s.cpu := rfl
@[simp] theorem State.setChrRam_ppu (s : State) (v : Memory) : (s.setChrRam v).ppu = s.ppu := rfl
@[simp] theorem State.setChrRam_apu (s : State) (v : Memory) : (s.setChrRam v).apu = s.apu := rfl
@[simp] theorem State.setChrRam_mapper (s : State) (v : Memory) : (s.setChrRam v).mapper = s.mapper := rfl
@[simp] theorem State.setChrRam_cfg (s : State) (v : Memory) : (s.setChrRam v).cfg = s.cfg := rfl
@[simp] theorem State.setChrRam_prgRam (s : State) (v : Memory) : (s.setChrRam v).prgRam = s.prgRam := rfl
@[simp] theorem State.setChrRam_chrRam (s : State) (v : Memory) : (s.setChrRam v).chrRam = v := rfl
@[simp] theorem State.setChrRam_ram (s : State) (v : Memory) : (s.setChrRam v).ram = s.ram := rfl
@[simp] theorem State.setChrRam_sys (s : State) (v : Memory) : (s.setChrRam v).sys = s.sys := rfl
@[simp] theorem State.setChrRam_draws (s : State) (v : Memory) : (s.setChrRam v).draws = s.draws := rfl

@[simp] theorem State.tickDraws_cpu (s : State) : s.tickDraws.cpu = s.cpu := rfl
@[simp] theorem State.tickDraws_ppu (s : State) : s.tickDraws.ppu = s.ppu := rfl
@[simp] theorem State.tickDraws_apu (s : State) : s.tickDraws.apu = s.apu := rfl
@[simp] theorem State.tickDraws_mapper (s : State) : s.tickDraws.mapper = s.mapper := rfl
@[simp] theorem State.tickDraws_cfg (s : State) : s.tickDraws.cfg = s.cfg := rfl
@[simp] theorem State.tickDraws_prgRam (s : State) : s.tickDraws.prgRam = s.prgRam := rfl
@[simp] theorem State.tickDraws_chrRam (s : State) : s.tickDraws.chrRam = s.chrRam := rfl
@[simp] theorem State.tickDraws_ram (s : State) : s.tickDraws.ram = s.ram := rfl
@[simp] theorem State.tickDraws_sys (s : State) : s.tickDraws.sys = s.sys := rfl
@[simp] theorem State.tickDraws_draws (s : State) : s.tickDraws.draws = s.draws + 1 := rfl

/-- Two states are equal when their ten fields are. -/
theorem State.ext_fields {s t : State} (h1 : s.cpu = t.cpu) (h2 : s.ppu = t.ppu) (h3 : s.apu = t.apu) (h4 : s.mapper = t.mapper)
    (h5 : s.cfg = t.cfg) (h6 : s.prgRam = t.prgRam) (h7 : s.chrRam = t.chrRam) (h8 : s.ram = t.ram) (h9 : s.sys = t.sys)
    (h10 : s.draws = t.draws) : s = t := by
  cases s; cases t; simp_all

end Sys2Proof.Machine
end

