-- ==== Sys2Proof/Laws/Bus.lean ====
section
/-! SUPPORT. One lemma per bus operation that says once what it can change: a read changes what `State.afterReads` names, a write
what `State.afterBus` names; the CPU's registers stay; which memory cells a write can change. -/

namespace Sys2Proof.Machine

/-- `t` differs from `s` in what bus reads can change, at most. -/
def ReadsOnly (s t : State) : Prop := t = s.afterReads t

/-- `t` differs from `s` in what bus reads and writes can change, at most. -/
def BusOnly (s t : State) : Prop := t = s.afterBus t

theorem ReadsOnly.refl (s : State) : ReadsOnly s s := by simp [ReadsOnly, State.afterReads]

theorem ReadsOnly.trans {s t u : State} (h : ReadsOnly s t) (h' : ReadsOnly t u) : ReadsOnly s u := by
  unfold ReadsOnly State.afterReads at *
  rw [h] at h'
  rw [h']
  simp [Bool.and_assoc, Bool.or_assoc]

theorem BusOnly.refl (s : State) : BusOnly s s := by simp [BusOnly, State.afterBus]

theorem BusOnly.trans {s t u : State} (h : BusOnly s t) (h' : BusOnly t u) : BusOnly s u := by
  unfold BusOnly State.afterBus at *
  rw [h] at h'
  rw [h']
  simp [Bool.and_assoc, Bool.or_assoc]

theorem ReadsOnly.bus {s t : State} (h : ReadsOnly s t) : BusOnly s t := by
  unfold ReadsOnly State.afterReads at h
  unfold BusOnly State.afterBus
  rw [h]
  simp

/-- Every byte of every memory is as before when only bus reads happened. -/
theorem ReadsOnly.byteAt {s t : State} (h : ReadsOnly s t) (m : Space) (a : Nat) : t.byteAt m a = s.byteAt m a := by
  unfold ReadsOnly State.afterReads at h
  rw [h]
  cases m <;> rfl

theorem ReadsOnly.cfg {s t : State} (h : ReadsOnly s t) : t.cfg = s.cfg := by rw [h]; rfl
theorem ReadsOnly.mapper {s t : State} (h : ReadsOnly s t) : t.mapper = s.mapper := by rw [h]; rfl
theorem ReadsOnly.apu {s t : State} (h : ReadsOnly s t) : t.apu = s.apu := by rw [h]; rfl
theorem ReadsOnly.ram {s t : State} (h : ReadsOnly s t) : t.ram = s.ram := by rw [h]; rfl
theorem ReadsOnly.cpu {s t : State} (h : ReadsOnly s t) :
    t.cpu = { s.cpu with nmiPending := s.cpu.nmiPending && t.cpu.nmiPending } := by conv_lhs => rw [h, State.afterReads]

theorem BusOnly.cpu {s t : State} (h : BusOnly s t) :
    t.cpu = { s.cpu with nmiPending := s.cpu.nmiPending && t.cpu.nmiPending, dmaPending := s.cpu.dmaPending || t.cpu.dmaPending } := by
  conv_lhs => rw [h, State.afterBus]

theorem BusOnly.cfg {s t : State} (h : BusOnly s t) : t.cfg = s.cfg := by rw [h]; rfl

theorem draw_readsOnly (s : State) : ReadsOnly s s.draw.2 := by
  simp [ReadsOnly, State.afterReads, State.draw, State.tickDraws]

theorem readStatus_readsOnly (s : State) : ReadsOnly s s.readStatus.2 := by
  simp only [ReadsOnly, State.afterReads, State.readStatus, State.draw, State.tickDraws, State.setPpu, State.setNmi]
  split <;> simp <;> exact fun h => .inr h

theorem readData_readsOnly (s : State) : ReadsOnly s s.readData.2 := by
  simp only [ReadsOnly, State.afterReads, State.readData, State.setPpu]
  split <;> simp

theorem ppuRegRead_readsOnly (r : BitVec 3) (s : State) : ReadsOnly s (s.ppuRegRead r).2 := by
  unfold State.ppuRegRead
  split
  · exact readStatus_readsOnly s
  · exact ReadsOnly.refl s
  · exact readData_readsOnly s
  · exact draw_readsOnly s

theorem readController_readsOnly (s : State) : ReadsOnly s s.readController.2 := by
  simp [ReadsOnly, State.afterReads, State.readController, State.draw, State.tickDraws, State.setSys]

/-- A bus read changes what `State.afterReads` names, at most. -/
theorem cpuRead_readsOnly (a : Addr) (s : State) : ReadsOnly s (cpuRead a s).2 := by
  unfold cpuRead
  split
  · exact ReadsOnly.refl s
  · exact ppuRegRead_readsOnly _ s
  · exact draw_readsOnly s
  · exact draw_readsOnly s
  · exact ReadsOnly.refl s
  · exact readController_readsOnly s
  · exact draw_readsOnly s
  · exact draw_readsOnly s
  · unfold State.cartRamRead
    split
    · exact ReadsOnly.refl s
    · exact draw_readsOnly s
  · exact ReadsOnly.refl s

theorem ppuWrite_busOnly (a : BitVec 14) (v : Byte) (s : State) : BusOnly s (s.ppuWrite a v) := by
  unfold BusOnly State.afterBus State.ppuWrite State.chrWrite
  split
  · split <;> simp [State.setChrRam]
  · split <;> simp [State.setPpu]

theorem writeData_busOnly (v : Byte) (s : State) : BusOnly s (s.writeData v) := by
  refine (ppuWrite_busOnly s.ppu.vAddr v s).trans ?_
  simp [BusOnly, State.afterBus, State.setPpu, State.writeData]

theorem ppuRegWrite_busOnly (r : BitVec 3) (v : Byte) (s : State) : BusOnly s (s.ppuRegWrite r v) := by
  unfold State.ppuRegWrite
  split
  · simp [BusOnly, State.afterBus, State.setPpu, Ppu.writeCtrl]
  · simp [BusOnly, State.afterBus, State.setPpu, Ppu.writeMask]
  · exact BusOnly.refl s
  · simp [BusOnly, State.afterBus, State.setPpu, Ppu.writeOamAddr]
  · simp [BusOnly, State.afterBus, State.setPpu, Ppu.writeOamData]
  · unfold Ppu.writeScroll; split <;> simp [BusOnly, State.afterBus, State.setPpu]
  · unfold Ppu.writeAddr; split <;> simp [BusOnly, State.afterBus, State.setPpu]
  · exact writeData_busOnly v s

theorem dmaByte_busOnly (page : Byte) (s : State) (i : Nat) : BusOnly s (dmaByte page s i) := by
  refine (cpuRead_readsOnly (page ++ BitVec.ofNat 8 i) s).bus.trans ?_
  simp [BusOnly, State.afterBus, State.setPpu, dmaByte]

theorem dmaFold_busOnly (page : Byte) (l : List Nat) (s : State) : BusOnly s (l.foldl (dmaByte page) s) := by
  induction l generalizing s with
  | nil => exact BusOnly.refl s
  | cons i rest ih => exact (dmaByte_busOnly page s i).trans (ih _)

theorem oamDma_busOnly (page : Byte) (s : State) : BusOnly s (oamDma page s) := by
  refine (dmaFold_busOnly page (List.range 256) s).trans ?_
  simp [BusOnly, State.afterBus, State.setDma, oamDma]

/-- A bus write changes what `State.afterBus` names, at most. -/
theorem cpuWrite_busOnly (a : Addr) (v : Byte) (s : State) : BusOnly s (cpuWrite a v s) := by
  unfold cpuWrite
  split
  · simp [BusOnly, State.afterBus, State.setRam]
  · exact ppuRegWrite_busOnly _ v s
  · simp [BusOnly, State.afterBus, State.setApu]
  · exact oamDma_busOnly v s
  · simp [BusOnly, State.afterBus, State.setApu]
  · unfold Sys.writeController; split <;> simp [BusOnly, State.afterBus, State.setSys]
  · simp [BusOnly, State.afterBus, State.setApu]
  · exact BusOnly.refl s
  · unfold State.cartRamWrite; split <;> simp [BusOnly, State.afterBus, State.setPrgRam]
  · unfold State.romWrite; split <;> simp [BusOnly, State.afterBus, State.setMapper]

end Sys2Proof.Machine
end

