-- ==== Sys2Proof/Laws/Ops.lean ====
section
/-! SUPPORT. One lemma per shared operation of Machine/Ops.lean and Machine/Operands.lean: the stack, the vectors, taking and
leaving an interrupt, the address computation, the operand read, and the fetch. -/

namespace Sys2Proof.Machine

/-- The stack page is internal RAM. -/
@[simp] theorem cpuTarget_stackAddr (sp : Byte) : cpuTarget (stackAddr sp) = .ram (256 + sp.toNat) := by
  have h : ∀ n : Fin 256, cpuTarget (stackAddr (BitVec.ofFin n)) = .ram (256 + n.val) := by decide +kernel
  exact h sp.toFin

/-- A push stores one RAM byte and moves `SP` down. -/
theorem push_eq (v : Byte) (s : State) :
    push v s = { s with ram := s.ram.write (256 + s.cpu.sp.toNat) v, cpu := { s.cpu with sp := s.cpu.sp - 1 } } := by
  simp [push, cpuWrite, State.setRam, State.setSp]

/-- A pull moves `SP` up and reads one RAM byte. -/
theorem pull_eq (s : State) :
    pull s = (s.ram.read (256 + (s.cpu.sp + 1).toNat), { s with cpu := { s.cpu with sp := s.cpu.sp + 1 } }) := by
  simp [pull, cpuRead, State.setSp]

theorem pushAddr_eq (a : Addr) (s : State) :
    pushAddr a s = { s with
      ram := (s.ram.write (256 + s.cpu.sp.toNat) (a.extractLsb' 8 8)).write (256 + (s.cpu.sp - 1).toNat) (a.extractLsb' 0 8),
      cpu := { s.cpu with sp := s.cpu.sp - 1 - 1 } } := by
  simp [pushAddr, push_eq]

theorem pullAddr_eq (s : State) :
    pullAddr s = (s.ram.read (256 + (s.cpu.sp + 1 + 1).toNat) ++ s.ram.read (256 + (s.cpu.sp + 1).toNat),
      { s with cpu := { s.cpu with sp := s.cpu.sp + 1 + 1 } }) := by
  simp [pullAddr, pull_eq]

/-- An address from 0x8000 up is cartridge ROM space. -/
theorem cpuTarget_rom (a : Addr) (h : 0x8000 ≤ a.toNat) : cpuTarget a = .cartRom := by
  simp only [cpuTarget]
  split_ifs <;> first | omega | rfl

/-- A read of ROM space has no side effect. -/
theorem cpuRead_rom (a : Addr) (s : State) (h : 0x8000 ≤ a.toNat) : cpuRead a s = (s.prgRead a, s) := by
  simp [cpuRead, cpuTarget_rom a h]

/-- A vector read has no side effect. -/
theorem cpuReadWord_rom (a : Addr) (s : State) (h : 0x8000 ≤ a.toNat) (h' : 0x8000 ≤ (a + 1).toNat) :
    cpuReadWord a s = (s.prgRead (a + 1) ++ s.prgRead a, s) := by
  simp only [cpuReadWord, cpuRead_rom a s h, cpuRead_rom (a + 1) s h']

/-- Taking an interrupt, whole: three bytes pushed, B and I set, `PC` from the vector, nothing else. -/
theorem takeInterrupt_eq (ret : Addr) (brk : Bool) (vector : Addr) (s : State) (h : 0x8000 ≤ vector.toNat)
    (h' : 0x8000 ≤ (vector + 1).toNat) :
    takeInterrupt ret brk vector s = { s with
      ram := ((s.ram.write (256 + s.cpu.sp.toNat) (ret.extractLsb' 8 8)).write (256 + (s.cpu.sp - 1).toNat)
        (ret.extractLsb' 0 8)).write (256 + (s.cpu.sp - 1 - 1).toNat) (Flags.pack { s.cpu.p with b := brk } brk),
      cpu := { s.cpu with
        sp := s.cpu.sp - 1 - 1 - 1, p := { s.cpu.p with b := brk, i := true },
        pc := s.prgRead (vector + 1) ++ s.prgRead vector } } := by
  simp only [takeInterrupt, pushAddr_eq, push_eq, State.setP]
  rw [cpuReadWord_rom vector _ h h']
  rfl

/-- Returning from an interrupt, whole: three bytes pulled, the flags but B, `PC`, nothing else. -/
theorem returnFromInterrupt_eq (s : State) :
    returnFromInterrupt s = { s with
      cpu := { s.cpu with
        sp := s.cpu.sp + 1 + 1 + 1, p := s.cpu.p.unpack (s.ram.read (256 + (s.cpu.sp + 1).toNat)),
        pc := s.ram.read (256 + (s.cpu.sp + 1 + 1 + 1).toNat) ++ s.ram.read (256 + (s.cpu.sp + 1 + 1).toNat) } } := by
  simp [returnFromInterrupt, pull_eq, pullAddr_eq, State.setP, State.setPc]

/-- `UnpackP` undoes `PackP` but for B, which stays. -/
theorem Flags.unpack_pack (p q : Flags) (b : Bool) : q.unpack (p.pack b) = { p with b := q.b } := by
  obtain ⟨c, z, i, d, b', v, n⟩ := p
  have h : ∀ c z i d v n b : Bool,
      (Flags.pack ⟨c, z, i, d, false, v, n⟩ b).getLsbD 7 = n ∧ (Flags.pack ⟨c, z, i, d, false, v, n⟩ b).getLsbD 6 = v ∧
      (Flags.pack ⟨c, z, i, d, false, v, n⟩ b).getLsbD 3 = d ∧ (Flags.pack ⟨c, z, i, d, false, v, n⟩ b).getLsbD 2 = i ∧
      (Flags.pack ⟨c, z, i, d, false, v, n⟩ b).getLsbD 1 = z ∧ (Flags.pack ⟨c, z, i, d, false, v, n⟩ b).getLsbD 0 = c := by
    decide
  obtain ⟨h7, h6, h3, h2, h1, h0⟩ := h c z i d v n b
  simp only [Flags.pack] at *
  simp only [Flags.unpack, h7, h6, h3, h2, h1, h0]

/-- The address computation: bus reads, then one latch. -/
theorem address_reads (o : Operand) (s : State) :
    ∃ t ea c, ReadsOnly s t ∧ address o s = t.latch o.mode ea c := by
  cases o with
  | ind a => exact ⟨_, _, _, (cpuRead_readsOnly a s).trans (cpuRead_readsOnly _ _), rfl⟩
  | indx z => exact ⟨_, _, _, (cpuRead_readsOnly _ s).trans (cpuRead_readsOnly _ _), rfl⟩
  | indy z => exact ⟨_, _, _, (cpuRead_readsOnly _ s).trans (cpuRead_readsOnly _ _), rfl⟩
  | _ => exact ⟨s, _, _, ReadsOnly.refl s, rfl⟩

/-- A state after bus reads and one latch of the address computation. -/
def LatchedReads (s t : State) : Prop := ∃ m ea c, t = ((s.afterReads t).latch m ea c)

theorem latchedReads_of {s t : State} (h : ReadsOnly s t) (m : AddrMode) (ea : Addr) (c : Bool) :
    LatchedReads s (t.latch m ea c) := by
  refine ⟨m, ea, c, ?_⟩
  unfold ReadsOnly State.afterReads at h
  rw [h]
  simp [State.afterReads, State.latch]

theorem LatchedReads.read {s t : State} (h : LatchedReads s t) (a : Addr) : LatchedReads s (cpuRead a t).2 := by
  obtain ⟨m, ea, c, h⟩ := h
  refine ⟨m, ea, c, ?_⟩
  have h' := cpuRead_readsOnly a t
  unfold ReadsOnly State.afterReads at h'
  unfold State.afterReads State.latch at *
  rw [h']
  rw [h]
  simp [Bool.and_assoc, Bool.or_assoc]

theorem LatchedReads.cpu {s t : State} (h : LatchedReads s t) :
    t.cpu = { s.cpu with
      nmiPending := s.cpu.nmiPending && t.cpu.nmiPending, mode := t.cpu.mode, ea := t.cpu.ea, pageCrossed := t.cpu.pageCrossed } := by
  obtain ⟨m, ea, c, h⟩ := h
  conv_lhs => rw [h]
  have h2 : t.cpu.mode = m ∧ t.cpu.ea = ea ∧ t.cpu.pageCrossed = c := by rw [h]; exact ⟨rfl, rfl, rfl⟩
  simp [State.afterReads, State.latch, h2]

theorem LatchedReads.byteAt {s t : State} (h : LatchedReads s t) (m : Space) (a : Nat) : t.byteAt m a = s.byteAt m a := by
  obtain ⟨_, _, _, h⟩ := h
  rw [h]
  cases m <;> rfl

theorem address_latchedReads (o : Operand) (s : State) : LatchedReads s (address o s) := by
  obtain ⟨t, ea, c, h, h'⟩ := address_reads o s
  rw [h']
  exact latchedReads_of h _ _ _

/-- The operand read: the address computation and at most one more bus read. -/
theorem operandRead_latchedReads (o : Operand) (s : State) : LatchedReads s (operandRead o s).2 := by
  cases o with
  | imm v => exact address_latchedReads (.imm v) s
  | acc => exact address_latchedReads .acc s
  | imp => exact (address_latchedReads .imp s).read _
  | zp z => exact (address_latchedReads (.zp z) s).read _
  | zpx z => exact (address_latchedReads (.zpx z) s).read _
  | zpy z => exact (address_latchedReads (.zpy z) s).read _
  | abs a => exact (address_latchedReads (.abs a) s).read _
  | absx a => exact (address_latchedReads (.absx a) s).read _
  | absy a => exact (address_latchedReads (.absy a) s).read _
  | ind a => exact (address_latchedReads (.ind a) s).read _
  | indx z => exact (address_latchedReads (.indx z) s).read _
  | indy z => exact (address_latchedReads (.indy z) s).read _
  | rel d => exact (address_latchedReads (.rel d) s).read _

theorem LatchedReads.pc {s t : State} (h : LatchedReads s t) : t.cpu.pc = s.cpu.pc := by rw [h.cpu]
theorem LatchedReads.p {s t : State} (h : LatchedReads s t) : t.cpu.p = s.cpu.p := by rw [h.cpu]
theorem LatchedReads.a {s t : State} (h : LatchedReads s t) : t.cpu.a = s.cpu.a := by rw [h.cpu]
theorem LatchedReads.x {s t : State} (h : LatchedReads s t) : t.cpu.x = s.cpu.x := by rw [h.cpu]
theorem LatchedReads.y {s t : State} (h : LatchedReads s t) : t.cpu.y = s.cpu.y := by rw [h.cpu]
theorem LatchedReads.sp {s t : State} (h : LatchedReads s t) : t.cpu.sp = s.cpu.sp := by rw [h.cpu]
theorem LatchedReads.dmaPending {s t : State} (h : LatchedReads s t) : t.cpu.dmaPending = s.cpu.dmaPending := by rw [h.cpu]
theorem LatchedReads.fault {s t : State} (h : LatchedReads s t) : t.cpu.fault = s.cpu.fault := by rw [h.cpu]

/-- Every address the model's operand data read uses is the one the address computation latched. -/
theorem operandRead_eq_dataRead (o : Operand) (s : State) : operandRead o s = dataRead o s := by
  cases o <;> simp [operandRead, dataRead, address]

/-- A fetch makes bus reads only. -/
theorem fetch_readsOnly (s : State) : ReadsOnly s (fetch s).2 := by
  unfold fetch
  simp only
  split
  · exact (cpuRead_readsOnly _ _).trans (cpuRead_readsOnly _ _)
  · exact ((cpuRead_readsOnly _ _).trans (cpuRead_readsOnly _ _)).trans (cpuRead_readsOnly _ _)
  · exact cpuRead_readsOnly _ _

/-- The fetched bytes begin with the opcode read at `PC`. -/
theorem fetch_head (s : State) : (fetch s).1.headD 0 = (cpuRead s.cpu.pc s).1 := by
  unfold fetch
  simp only
  split <;> rfl

end Sys2Proof.Machine
end

