-- ==== Sys2Proof/Laws/PerInstr.lean ====
section
/-! SUPPORT. The family of laws made instruction by instruction: every instruction has its row in the opcode table of
30_encoding.md R178, under its own mnemonic and mode. -/

section

-- One theorem after the other: each is a kernel evaluation of the table, and together they would need too many threads.
set_option Elab.async false

/-- The opcode of the instruction selects a row with the instruction's mnemonic and addressing mode (30_encoding.md R175, R178). -/
def Sys2Proof.Laws.OpcodeRowOf.Statement (i : Sys2Proof.Instr) : Prop :=
  ∃ row, Sys2Proof.lookupOpcode i.opcode = some row ∧ row.mnemonic = i.mnemonic ∧ row.mode = i.operand.mode

/-- The opcode byte finds a row of that mnemonic and mode. -/
def Sys2Proof.Laws.OpcodeRowOf.check (op : Sys2Proof.Byte) (m : Sys2Proof.Mnemonic) (mode : Sys2Proof.AddrMode) : Bool :=
  (Sys2Proof.lookupOpcode op).any (fun r => r.mnemonic == m && r.mode == mode)

/-- A checked entry has its row. -/
theorem Sys2Proof.Laws.OpcodeRowOf.of_check {op : Sys2Proof.Byte} {m : Sys2Proof.Mnemonic} {mode : Sys2Proof.AddrMode}
    (h : Sys2Proof.Laws.OpcodeRowOf.check op m mode = true) :
    ∃ row, Sys2Proof.lookupOpcode op = some row ∧ row.mnemonic = m ∧ row.mode = mode := by
  unfold Sys2Proof.Laws.OpcodeRowOf.check at h
  cases hr : Sys2Proof.lookupOpcode op with
  | none => simp [hr] at h
  | some row => simp only [hr, Option.any_some, Bool.and_eq_true, beq_iff_eq] at h; exact ⟨row, rfl, h⟩

theorem Sys2Proof.Laws.OpcodeRowOf.lda_rows :
    Sys2Proof.Laws.OpcodeRowOf.check 0xA9#8 .lda .imm = true ∧
    Sys2Proof.Laws.OpcodeRowOf.check 0xA5#8 .lda .zp = true ∧
    Sys2Proof.Laws.OpcodeRowOf.check 0xB5#8 .lda .zpx = true ∧
    Sys2Proof.Laws.OpcodeRowOf.check 0xAD#8 .lda .abs = true ∧
    Sys2Proof.Laws.OpcodeRowOf.check 0xBD#8 .lda .absx = true ∧
    Sys2Proof.Laws.OpcodeRowOf.check 0xB9#8 .lda .absy = true ∧
    Sys2Proof.Laws.OpcodeRowOf.check 0xA1#8 .lda .indx = true ∧
    Sys2Proof.Laws.OpcodeRowOf.check 0xB1#8 .lda .indy = true := by decide +kernel

theorem Sys2Proof.Laws.OpcodeRowOf.ldx_rows :
    Sys2Proof.Laws.OpcodeRowOf.check 0xA2#8 .ldx .imm = true ∧
    Sys2Proof.Laws.OpcodeRowOf.check 0xA6#8 .ldx .zp = true ∧
    Sys2Proof.Laws.OpcodeRowOf.check 0xB6#8 .ldx .zpy = true ∧
    Sys2Proof.Laws.OpcodeRowOf.check 0xAE#8 .ldx .abs = true ∧
    Sys2Proof.Laws.OpcodeRowOf.check 0xBE#8 .ldx .absy = true := by decide +kernel

theorem Sys2Proof.Laws.OpcodeRowOf.ldy_rows :
    Sys2Proof.Laws.OpcodeRowOf.check 0xA0#8 .ldy .imm = true ∧
    Sys2Proof.Laws.OpcodeRowOf.check 0xA4#8 .ldy .zp = true ∧
    Sys2Proof.Laws.OpcodeRowOf.check 0xB4#8 .ldy .zpx = true ∧
    Sys2Proof.Laws.OpcodeRowOf.check 0xAC#8 .ldy .abs = true ∧
    Sys2Proof.Laws.OpcodeRowOf.check 0xBC#8 .ldy .absx = true := by decide +kernel

theorem Sys2Proof.Laws.OpcodeRowOf.sta_rows :
    Sys2Proof.Laws.OpcodeRowOf.check 0x85#8 .sta .zp = true ∧
    Sys2Proof.Laws.OpcodeRowOf.check 0x95#8 .sta .zpx = true ∧
    Sys2Proof.Laws.OpcodeRowOf.check 0x8D#8 .sta .abs = true ∧
    Sys2Proof.Laws.OpcodeRowOf.check 0x9D#8 .sta .absx = true ∧
    Sys2Proof.Laws.OpcodeRowOf.check 0x99#8 .sta .absy = true ∧
    Sys2Proof.Laws.OpcodeRowOf.check 0x81#8 .sta .indx = true ∧
    Sys2Proof.Laws.OpcodeRowOf.check 0x91#8 .sta .indy = true := by decide +kernel

theorem Sys2Proof.Laws.OpcodeRowOf.stx_rows :
    Sys2Proof.Laws.OpcodeRowOf.check 0x86#8 .stx .zp = true ∧
    Sys2Proof.Laws.OpcodeRowOf.check 0x96#8 .stx .zpy = true ∧
    Sys2Proof.Laws.OpcodeRowOf.check 0x8E#8 .stx .abs = true := by decide +kernel

theorem Sys2Proof.Laws.OpcodeRowOf.sty_rows :
    Sys2Proof.Laws.OpcodeRowOf.check 0x84#8 .sty .zp = true ∧
    Sys2Proof.Laws.OpcodeRowOf.check 0x94#8 .sty .zpx = true ∧
    Sys2Proof.Laws.OpcodeRowOf.check 0x8C#8 .sty .abs = true := by decide +kernel

theorem Sys2Proof.Laws.OpcodeRowOf.tax_rows :
    Sys2Proof.Laws.OpcodeRowOf.check 0xAA#8 .tax .imp = true := by decide +kernel

theorem Sys2Proof.Laws.OpcodeRowOf.tay_rows :
    Sys2Proof.Laws.OpcodeRowOf.check 0xA8#8 .tay .imp = true := by decide +kernel

theorem Sys2Proof.Laws.OpcodeRowOf.txa_rows :
    Sys2Proof.Laws.OpcodeRowOf.check 0x8A#8 .txa .imp = true := by decide +kernel

theorem Sys2Proof.Laws.OpcodeRowOf.tya_rows :
    Sys2Proof.Laws.OpcodeRowOf.check 0x98#8 .tya .imp = true := by decide +kernel

theorem Sys2Proof.Laws.OpcodeRowOf.tsx_rows :
    Sys2Proof.Laws.OpcodeRowOf.check 0xBA#8 .tsx .imp = true := by decide +kernel

theorem Sys2Proof.Laws.OpcodeRowOf.txs_rows :
    Sys2Proof.Laws.OpcodeRowOf.check 0x9A#8 .txs .imp = true := by decide +kernel

theorem Sys2Proof.Laws.OpcodeRowOf.pha_rows :
    Sys2Proof.Laws.OpcodeRowOf.check 0x48#8 .pha .imp = true := by decide +kernel

theorem Sys2Proof.Laws.OpcodeRowOf.php_rows :
    Sys2Proof.Laws.OpcodeRowOf.check 0x08#8 .php .imp = true := by decide +kernel

theorem Sys2Proof.Laws.OpcodeRowOf.pla_rows :
    Sys2Proof.Laws.OpcodeRowOf.check 0x68#8 .pla .imp = true := by decide +kernel

theorem Sys2Proof.Laws.OpcodeRowOf.plp_rows :
    Sys2Proof.Laws.OpcodeRowOf.check 0x28#8 .plp .imp = true := by decide +kernel

theorem Sys2Proof.Laws.OpcodeRowOf.adc_rows :
    Sys2Proof.Laws.OpcodeRowOf.check 0x69#8 .adc .imm = true ∧
    Sys2Proof.Laws.OpcodeRowOf.check 0x65#8 .adc .zp = true ∧
    Sys2Proof.Laws.OpcodeRowOf.check 0x75#8 .adc .zpx = true ∧
    Sys2Proof.Laws.OpcodeRowOf.check 0x6D#8 .adc .abs = true ∧
    Sys2Proof.Laws.OpcodeRowOf.check 0x7D#8 .adc .absx = true ∧
    Sys2Proof.Laws.OpcodeRowOf.check 0x79#8 .adc .absy = true ∧
    Sys2Proof.Laws.OpcodeRowOf.check 0x61#8 .adc .indx = true ∧
    Sys2Proof.Laws.OpcodeRowOf.check 0x71#8 .adc .indy = true := by decide +kernel

theorem Sys2Proof.Laws.OpcodeRowOf.sbc_rows :
    Sys2Proof.Laws.OpcodeRowOf.check 0xE9#8 .sbc .imm = true ∧
    Sys2Proof.Laws.OpcodeRowOf.check 0xE5#8 .sbc .zp = true ∧
    Sys2Proof.Laws.OpcodeRowOf.check 0xF5#8 .sbc .zpx = true ∧
    Sys2Proof.Laws.OpcodeRowOf.check 0xED#8 .sbc .abs = true ∧
    Sys2Proof.Laws.OpcodeRowOf.check 0xFD#8 .sbc .absx = true ∧
    Sys2Proof.Laws.OpcodeRowOf.check 0xF9#8 .sbc .absy = true ∧
    Sys2Proof.Laws.OpcodeRowOf.check 0xE1#8 .sbc .indx = true ∧
    Sys2Proof.Laws.OpcodeRowOf.check 0xF1#8 .sbc .indy = true := by decide +kernel

theorem Sys2Proof.Laws.OpcodeRowOf.and_rows :
    Sys2Proof.Laws.OpcodeRowOf.check 0x29#8 .and .imm = true ∧
    Sys2Proof.Laws.OpcodeRowOf.check 0x25#8 .and .zp = true ∧
    Sys2Proof.Laws.OpcodeRowOf.check 0x35#8 .and .zpx = true ∧
    Sys2Proof.Laws.OpcodeRowOf.check 0x2D#8 .and .abs = true ∧
    Sys2Proof.Laws.OpcodeRowOf.check 0x3D#8 .and .absx = true ∧
    Sys2Proof.Laws.OpcodeRowOf.check 0x39#8 .and .absy = true ∧
    Sys2Proof.Laws.OpcodeRowOf.check 0x21#8 .and .indx = true ∧
    Sys2Proof.Laws.OpcodeRowOf.check 0x31#8 .and .indy = true := by decide +kernel

theorem Sys2Proof.Laws.OpcodeRowOf.ora_rows :
    Sys2Proof.Laws.OpcodeRowOf.check 0x09#8 .ora .imm = true ∧
    Sys2Proof.Laws.OpcodeRowOf.check 0x05#8 .ora .zp = true ∧
    Sys2Proof.Laws.OpcodeRowOf.check 0x15#8 .ora .zpx = true ∧
    Sys2Proof.Laws.OpcodeRowOf.check 0x0D#8 .ora .abs = true ∧
    Sys2Proof.Laws.OpcodeRowOf.check 0x1D#8 .ora .absx = true ∧
    Sys2Proof.Laws.OpcodeRowOf.check 0x19#8 .ora .absy = true ∧
    Sys2Proof.Laws.OpcodeRowOf.check 0x01#8 .ora .indx = true ∧
    Sys2Proof.Laws.OpcodeRowOf.check 0x11#8 .ora .indy = true := by decide +kernel

theorem Sys2Proof.Laws.OpcodeRowOf.eor_rows :
    Sys2Proof.Laws.OpcodeRowOf.check 0x49#8 .eor .imm = true ∧
    Sys2Proof.Laws.OpcodeRowOf.check 0x45#8 .eor .zp = true ∧
    Sys2Proof.Laws.OpcodeRowOf.check 0x55#8 .eor .zpx = true ∧
    Sys2Proof.Laws.OpcodeRowOf.check 0x4D#8 .eor .abs = true ∧
    Sys2Proof.Laws.OpcodeRowOf.check 0x5D#8 .eor .absx = true ∧
    Sys2Proof.Laws.OpcodeRowOf.check 0x59#8 .eor .absy = true ∧
    Sys2Proof.Laws.OpcodeRowOf.check 0x41#8 .eor .indx = true ∧
    Sys2Proof.Laws.OpcodeRowOf.check 0x51#8 .eor .indy = true := by decide +kernel

theorem Sys2Proof.Laws.OpcodeRowOf.cmp_rows :
    Sys2Proof.Laws.OpcodeRowOf.check 0xC9#8 .cmp .imm = true ∧
    Sys2Proof.Laws.OpcodeRowOf.check 0xC5#8 .cmp .zp = true ∧
    Sys2Proof.Laws.OpcodeRowOf.check 0xD5#8 .cmp .zpx = true ∧
    Sys2Proof.Laws.OpcodeRowOf.check 0xCD#8 .cmp .abs = true ∧
    Sys2Proof.Laws.OpcodeRowOf.check 0xDD#8 .cmp .absx = true ∧
    Sys2Proof.Laws.OpcodeRowOf.check 0xD9#8 .cmp .absy = true ∧
    Sys2Proof.Laws.OpcodeRowOf.check 0xC1#8 .cmp .indx = true ∧
    Sys2Proof.Laws.OpcodeRowOf.check 0xD1#8 .cmp .indy = true := by decide +kernel

theorem Sys2Proof.Laws.OpcodeRowOf.cpx_rows :
    Sys2Proof.Laws.OpcodeRowOf.check 0xE0#8 .cpx .imm = true ∧
    Sys2Proof.Laws.OpcodeRowOf.check 0xE4#8 .cpx .zp = true ∧
    Sys2Proof.Laws.OpcodeRowOf.check 0xEC#8 .cpx .abs = true := by decide +kernel

theorem Sys2Proof.Laws.OpcodeRowOf.cpy_rows :
    Sys2Proof.Laws.OpcodeRowOf.check 0xC0#8 .cpy .imm = true ∧
    Sys2Proof.Laws.OpcodeRowOf.check 0xC4#8 .cpy .zp = true ∧
    Sys2Proof.Laws.OpcodeRowOf.check 0xCC#8 .cpy .abs = true := by decide +kernel

theorem Sys2Proof.Laws.OpcodeRowOf.bit_rows :
    Sys2Proof.Laws.OpcodeRowOf.check 0x24#8 .bit .zp = true ∧
    Sys2Proof.Laws.OpcodeRowOf.check 0x2C#8 .bit .abs = true := by decide +kernel

theorem Sys2Proof.Laws.OpcodeRowOf.asl_rows :
    Sys2Proof.Laws.OpcodeRowOf.check 0x0A#8 .asl .acc = true ∧
    Sys2Proof.Laws.OpcodeRowOf.check 0x06#8 .asl .zp = true ∧
    Sys2Proof.Laws.OpcodeRowOf.check 0x16#8 .asl .zpx = true ∧
    Sys2Proof.Laws.OpcodeRowOf.check 0x0E#8 .asl .abs = true ∧
    Sys2Proof.Laws.OpcodeRowOf.check 0x1E#8 .asl .absx = true := by decide +kernel

theorem Sys2Proof.Laws.OpcodeRowOf.lsr_rows :
    Sys2Proof.Laws.OpcodeRowOf.check 0x4A#8 .lsr .acc = true ∧
    Sys2Proof.Laws.OpcodeRowOf.check 0x46#8 .lsr .zp = true ∧
    Sys2Proof.Laws.OpcodeRowOf.check 0x56#8 .lsr .zpx = true ∧
    Sys2Proof.Laws.OpcodeRowOf.check 0x4E#8 .lsr .abs = true ∧
    Sys2Proof.Laws.OpcodeRowOf.check 0x5E#8 .lsr .absx = true := by decide +kernel

theorem Sys2Proof.Laws.OpcodeRowOf.rol_rows :
    Sys2Proof.Laws.OpcodeRowOf.check 0x2A#8 .rol .acc = true ∧
    Sys2Proof.Laws.OpcodeRowOf.check 0x26#8 .rol .zp = true ∧
    Sys2Proof.Laws.OpcodeRowOf.check 0x36#8 .rol .zpx = true ∧
    Sys2Proof.Laws.OpcodeRowOf.check 0x2E#8 .rol .abs = true ∧
    Sys2Proof.Laws.OpcodeRowOf.check 0x3E#8 .rol .absx = true := by decide +kernel

theorem Sys2Proof.Laws.OpcodeRowOf.ror_rows :
    Sys2Proof.Laws.OpcodeRowOf.check 0x6A#8 .ror .acc = true ∧
    Sys2Proof.Laws.OpcodeRowOf.check 0x66#8 .ror .zp = true ∧
    Sys2Proof.Laws.OpcodeRowOf.check 0x76#8 .ror .zpx = true ∧
    Sys2Proof.Laws.OpcodeRowOf.check 0x6E#8 .ror .abs = true ∧
    Sys2Proof.Laws.OpcodeRowOf.check 0x7E#8 .ror .absx = true := by decide +kernel

theorem Sys2Proof.Laws.OpcodeRowOf.inc_rows :
    Sys2Proof.Laws.OpcodeRowOf.check 0xE6#8 .inc .zp = true ∧
    Sys2Proof.Laws.OpcodeRowOf.check 0xF6#8 .inc .zpx = true ∧
    Sys2Proof.Laws.OpcodeRowOf.check 0xEE#8 .inc .abs = true ∧
    Sys2Proof.Laws.OpcodeRowOf.check 0xFE#8 .inc .absx = true := by decide +kernel

theorem Sys2Proof.Laws.OpcodeRowOf.dec_rows :
    Sys2Proof.Laws.OpcodeRowOf.check 0xC6#8 .dec .zp = true ∧
    Sys2Proof.Laws.OpcodeRowOf.check 0xD6#8 .dec .zpx = true ∧
    Sys2Proof.Laws.OpcodeRowOf.check 0xCE#8 .dec .abs = true ∧
    Sys2Proof.Laws.OpcodeRowOf.check 0xDE#8 .dec .absx = true := by decide +kernel

theorem Sys2Proof.Laws.OpcodeRowOf.inx_rows :
    Sys2Proof.Laws.OpcodeRowOf.check 0xE8#8 .inx .imp = true := by decide +kernel

theorem Sys2Proof.Laws.OpcodeRowOf.iny_rows :
    Sys2Proof.Laws.OpcodeRowOf.check 0xC8#8 .iny .imp = true := by decide +kernel

theorem Sys2Proof.Laws.OpcodeRowOf.dex_rows :
    Sys2Proof.Laws.OpcodeRowOf.check 0xCA#8 .dex .imp = true := by decide +kernel

theorem Sys2Proof.Laws.OpcodeRowOf.dey_rows :
    Sys2Proof.Laws.OpcodeRowOf.check 0x88#8 .dey .imp = true := by decide +kernel

theorem Sys2Proof.Laws.OpcodeRowOf.jmp_rows :
    Sys2Proof.Laws.OpcodeRowOf.check 0x4C#8 .jmp .abs = true ∧
    Sys2Proof.Laws.OpcodeRowOf.check 0x6C#8 .jmp .ind = true := by decide +kernel

theorem Sys2Proof.Laws.OpcodeRowOf.jsr_rows :
    Sys2Proof.Laws.OpcodeRowOf.check 0x20#8 .jsr .abs = true := by decide +kernel

theorem Sys2Proof.Laws.OpcodeRowOf.rts_rows :
    Sys2Proof.Laws.OpcodeRowOf.check 0x60#8 .rts .imp = true := by decide +kernel

theorem Sys2Proof.Laws.OpcodeRowOf.bpl_rows :
    Sys2Proof.Laws.OpcodeRowOf.check 0x10#8 .bpl .rel = true := by decide +kernel

theorem Sys2Proof.Laws.OpcodeRowOf.bmi_rows :
    Sys2Proof.Laws.OpcodeRowOf.check 0x30#8 .bmi .rel = true := by decide +kernel

theorem Sys2Proof.Laws.OpcodeRowOf.bvc_rows :
    Sys2Proof.Laws.OpcodeRowOf.check 0x50#8 .bvc .rel = true := by decide +kernel

theorem Sys2Proof.Laws.OpcodeRowOf.bvs_rows :
    Sys2Proof.Laws.OpcodeRowOf.check 0x70#8 .bvs .rel = true := by decide +kernel

theorem Sys2Proof.Laws.OpcodeRowOf.bcc_rows :
    Sys2Proof.Laws.OpcodeRowOf.check 0x90#8 .bcc .rel = true := by decide +kernel

theorem Sys2Proof.Laws.OpcodeRowOf.bcs_rows :
    Sys2Proof.Laws.OpcodeRowOf.check 0xB0#8 .bcs .rel = true := by decide +kernel

theorem Sys2Proof.Laws.OpcodeRowOf.bne_rows :
    Sys2Proof.Laws.OpcodeRowOf.check 0xD0#8 .bne .rel = true := by decide +kernel

theorem Sys2Proof.Laws.OpcodeRowOf.beq_rows :
    Sys2Proof.Laws.OpcodeRowOf.check 0xF0#8 .beq .rel = true := by decide +kernel

theorem Sys2Proof.Laws.OpcodeRowOf.brk_rows :
    Sys2Proof.Laws.OpcodeRowOf.check 0x00#8 .brk .imp = true := by decide +kernel

theorem Sys2Proof.Laws.OpcodeRowOf.rti_rows :
    Sys2Proof.Laws.OpcodeRowOf.check 0x40#8 .rti .imp = true := by decide +kernel

theorem Sys2Proof.Laws.OpcodeRowOf.clc_rows :
    Sys2Proof.Laws.OpcodeRowOf.check 0x18#8 .clc .imp = true := by decide +kernel

theorem Sys2Proof.Laws.OpcodeRowOf.sec_rows :
    Sys2Proof.Laws.OpcodeRowOf.check 0x38#8 .sec .imp = true := by decide +kernel

theorem Sys2Proof.Laws.OpcodeRowOf.cli_rows :
    Sys2Proof.Laws.OpcodeRowOf.check 0x58#8 .cli .imp = true := by decide +kernel

theorem Sys2Proof.Laws.OpcodeRowOf.sei_rows :
    Sys2Proof.Laws.OpcodeRowOf.check 0x78#8 .sei .imp = true := by decide +kernel

theorem Sys2Proof.Laws.OpcodeRowOf.clv_rows :
    Sys2Proof.Laws.OpcodeRowOf.check 0xB8#8 .clv .imp = true := by decide +kernel

theorem Sys2Proof.Laws.OpcodeRowOf.cld_rows :
    Sys2Proof.Laws.OpcodeRowOf.check 0xD8#8 .cld .imp = true := by decide +kernel

theorem Sys2Proof.Laws.OpcodeRowOf.sed_rows :
    Sys2Proof.Laws.OpcodeRowOf.check 0xF8#8 .sed .imp = true := by decide +kernel

theorem Sys2Proof.Laws.OpcodeRowOf.nop_rows :
    Sys2Proof.Laws.OpcodeRowOf.check 0xEA#8 .nop .imp = true := by decide +kernel

theorem Sys2Proof.Laws.OpcodeRowOf.ldaImm (v : Sys2Proof.Byte) :
    Sys2Proof.Laws.OpcodeRowOf.Statement (.ldaImm v) := Sys2Proof.Laws.OpcodeRowOf.of_check Sys2Proof.Laws.OpcodeRowOf.lda_rows.1
theorem Sys2Proof.Laws.OpcodeRowOf.ldaZp (z : Sys2Proof.Byte) :
    Sys2Proof.Laws.OpcodeRowOf.Statement (.ldaZp z) := Sys2Proof.Laws.OpcodeRowOf.of_check Sys2Proof.Laws.OpcodeRowOf.lda_rows.2.1
theorem Sys2Proof.Laws.OpcodeRowOf.ldaZpX (z : Sys2Proof.Byte) :
    Sys2Proof.Laws.OpcodeRowOf.Statement (.ldaZpX z) := Sys2Proof.Laws.OpcodeRowOf.of_check Sys2Proof.Laws.OpcodeRowOf.lda_rows.2.2.1
theorem Sys2Proof.Laws.OpcodeRowOf.ldaAbs (a : Sys2Proof.Addr) :
    Sys2Proof.Laws.OpcodeRowOf.Statement (.ldaAbs a) := Sys2Proof.Laws.OpcodeRowOf.of_check Sys2Proof.Laws.OpcodeRowOf.lda_rows.2.2.2.1
theorem Sys2Proof.Laws.OpcodeRowOf.ldaAbsX (a : Sys2Proof.Addr) :
    Sys2Proof.Laws.OpcodeRowOf.Statement (.ldaAbsX a) := Sys2Proof.Laws.OpcodeRowOf.of_check Sys2Proof.Laws.OpcodeRowOf.lda_rows.2.2.2.2.1
theorem Sys2Proof.Laws.OpcodeRowOf.ldaAbsY (a : Sys2Proof.Addr) :
    Sys2Proof.Laws.OpcodeRowOf.Statement (.ldaAbsY a) := Sys2Proof.Laws.OpcodeRowOf.of_check Sys2Proof.Laws.OpcodeRowOf.lda_rows.2.2.2.2.2.1
theorem Sys2Proof.Laws.OpcodeRowOf.ldaIndX (z : Sys2Proof.Byte) :
    Sys2Proof.Laws.OpcodeRowOf.Statement (.ldaIndX z) := Sys2Proof.Laws.OpcodeRowOf.of_check Sys2Proof.Laws.OpcodeRowOf.lda_rows.2.2.2.2.2.2.1
theorem Sys2Proof.Laws.OpcodeRowOf.ldaIndY (z : Sys2Proof.Byte) :
    Sys2Proof.Laws.OpcodeRowOf.Statement (.ldaIndY z) := Sys2Proof.Laws.OpcodeRowOf.of_check Sys2Proof.Laws.OpcodeRowOf.lda_rows.2.2.2.2.2.2.2
theorem Sys2Proof.Laws.OpcodeRowOf.ldxImm (v : Sys2Proof.Byte) :
    Sys2Proof.Laws.OpcodeRowOf.Statement (.ldxImm v) := Sys2Proof.Laws.OpcodeRowOf.of_check Sys2Proof.Laws.OpcodeRowOf.ldx_rows.1
theorem Sys2Proof.Laws.OpcodeRowOf.ldxZp (z : Sys2Proof.Byte) :
    Sys2Proof.Laws.OpcodeRowOf.Statement (.ldxZp z) := Sys2Proof.Laws.OpcodeRowOf.of_check Sys2Proof.Laws.OpcodeRowOf.ldx_rows.2.1
theorem Sys2Proof.Laws.OpcodeRowOf.ldxZpY (z : Sys2Proof.Byte) :
    Sys2Proof.Laws.OpcodeRowOf.Statement (.ldxZpY z) := Sys2Proof.Laws.OpcodeRowOf.of_check Sys2Proof.Laws.OpcodeRowOf.ldx_rows.2.2.1
theorem Sys2Proof.Laws.OpcodeRowOf.ldxAbs (a : Sys2Proof.Addr) :
    Sys2Proof.Laws.OpcodeRowOf.Statement (.ldxAbs a) := Sys2Proof.Laws.OpcodeRowOf.of_check Sys2Proof.Laws.OpcodeRowOf.ldx_rows.2.2.2.1
theorem Sys2Proof.Laws.OpcodeRowOf.ldxAbsY (a : Sys2Proof.Addr) :
    Sys2Proof.Laws.OpcodeRowOf.Statement (.ldxAbsY a) := Sys2Proof.Laws.OpcodeRowOf.of_check Sys2Proof.Laws.OpcodeRowOf.ldx_rows.2.2.2.2
theorem Sys2Proof.Laws.OpcodeRowOf.ldyImm (v : Sys2Proof.Byte) :
    Sys2Proof.Laws.OpcodeRowOf.Statement (.ldyImm v) := Sys2Proof.Laws.OpcodeRowOf.of_check Sys2Proof.Laws.OpcodeRowOf.ldy_rows.1
theorem Sys2Proof.Laws.OpcodeRowOf.ldyZp (z : Sys2Proof.Byte) :
    Sys2Proof.Laws.OpcodeRowOf.Statement (.ldyZp z) := Sys2Proof.Laws.OpcodeRowOf.of_check Sys2Proof.Laws.OpcodeRowOf.ldy_rows.2.1
theorem Sys2Proof.Laws.OpcodeRowOf.ldyZpX (z : Sys2Proof.Byte) :
    Sys2Proof.Laws.OpcodeRowOf.Statement (.ldyZpX z) := Sys2Proof.Laws.OpcodeRowOf.of_check Sys2Proof.Laws.OpcodeRowOf.ldy_rows.2.2.1
theorem Sys2Proof.Laws.OpcodeRowOf.ldyAbs (a : Sys2Proof.Addr) :
    Sys2Proof.Laws.OpcodeRowOf.Statement (.ldyAbs a) := Sys2Proof.Laws.OpcodeRowOf.of_check Sys2Proof.Laws.OpcodeRowOf.ldy_rows.2.2.2.1
theorem Sys2Proof.Laws.OpcodeRowOf.ldyAbsX (a : Sys2Proof.Addr) :
    Sys2Proof.Laws.OpcodeRowOf.Statement (.ldyAbsX a) := Sys2Proof.Laws.OpcodeRowOf.of_check Sys2Proof.Laws.OpcodeRowOf.ldy_rows.2.2.2.2
theorem Sys2Proof.Laws.OpcodeRowOf.staZp (z : Sys2Proof.Byte) :
    Sys2Proof.Laws.OpcodeRowOf.Statement (.staZp z) := Sys2Proof.Laws.OpcodeRowOf.of_check Sys2Proof.Laws.OpcodeRowOf.sta_rows.1
theorem Sys2Proof.Laws.OpcodeRowOf.staZpX (z : Sys2Proof.Byte) :
    Sys2Proof.Laws.OpcodeRowOf.Statement (.staZpX z) := Sys2Proof.Laws.OpcodeRowOf.of_check Sys2Proof.Laws.OpcodeRowOf.sta_rows.2.1
theorem Sys2Proof.Laws.OpcodeRowOf.staAbs (a : Sys2Proof.Addr) :
    Sys2Proof.Laws.OpcodeRowOf.Statement (.staAbs a) := Sys2Proof.Laws.OpcodeRowOf.of_check Sys2Proof.Laws.OpcodeRowOf.sta_rows.2.2.1
theorem Sys2Proof.Laws.OpcodeRowOf.staAbsX (a : Sys2Proof.Addr) :
    Sys2Proof.Laws.OpcodeRowOf.Statement (.staAbsX a) := Sys2Proof.Laws.OpcodeRowOf.of_check Sys2Proof.Laws.OpcodeRowOf.sta_rows.2.2.2.1
theorem Sys2Proof.Laws.OpcodeRowOf.staAbsY (a : Sys2Proof.Addr) :
    Sys2Proof.Laws.OpcodeRowOf.Statement (.staAbsY a) := Sys2Proof.Laws.OpcodeRowOf.of_check Sys2Proof.Laws.OpcodeRowOf.sta_rows.2.2.2.2.1
theorem Sys2Proof.Laws.OpcodeRowOf.staIndX (z : Sys2Proof.Byte) :
    Sys2Proof.Laws.OpcodeRowOf.Statement (.staIndX z) := Sys2Proof.Laws.OpcodeRowOf.of_check Sys2Proof.Laws.OpcodeRowOf.sta_rows.2.2.2.2.2.1
theorem Sys2Proof.Laws.OpcodeRowOf.staIndY (z : Sys2Proof.Byte) :
    Sys2Proof.Laws.OpcodeRowOf.Statement (.staIndY z) := Sys2Proof.Laws.OpcodeRowOf.of_check Sys2Proof.Laws.OpcodeRowOf.sta_rows.2.2.2.2.2.2
theorem Sys2Proof.Laws.OpcodeRowOf.stxZp (z : Sys2Proof.Byte) :
    Sys2Proof.Laws.OpcodeRowOf.Statement (.stxZp z) := Sys2Proof.Laws.OpcodeRowOf.of_check Sys2Proof.Laws.OpcodeRowOf.stx_rows.1
theorem Sys2Proof.Laws.OpcodeRowOf.stxZpY (z : Sys2Proof.Byte) :
    Sys2Proof.Laws.OpcodeRowOf.Statement (.stxZpY z) := Sys2Proof.Laws.OpcodeRowOf.of_check Sys2Proof.Laws.OpcodeRowOf.stx_rows.2.1
theorem Sys2Proof.Laws.OpcodeRowOf.stxAbs (a : Sys2Proof.Addr) :
    Sys2Proof.Laws.OpcodeRowOf.Statement (.stxAbs a) := Sys2Proof.Laws.OpcodeRowOf.of_check Sys2Proof.Laws.OpcodeRowOf.stx_rows.2.2
theorem Sys2Proof.Laws.OpcodeRowOf.styZp (z : Sys2Proof.Byte) :
    Sys2Proof.Laws.OpcodeRowOf.Statement (.styZp z) := Sys2Proof.Laws.OpcodeRowOf.of_check Sys2Proof.Laws.OpcodeRowOf.sty_rows.1
theorem Sys2Proof.Laws.OpcodeRowOf.styZpX (z : Sys2Proof.Byte) :
    Sys2Proof.Laws.OpcodeRowOf.Statement (.styZpX z) := Sys2Proof.Laws.OpcodeRowOf.of_check Sys2Proof.Laws.OpcodeRowOf.sty_rows.2.1
theorem Sys2Proof.Laws.OpcodeRowOf.styAbs (a : Sys2Proof.Addr) :
    Sys2Proof.Laws.OpcodeRowOf.Statement (.styAbs a) := Sys2Proof.Laws.OpcodeRowOf.of_check Sys2Proof.Laws.OpcodeRowOf.sty_rows.2.2
theorem Sys2Proof.Laws.OpcodeRowOf.tax :
    Sys2Proof.Laws.OpcodeRowOf.Statement (.tax) := Sys2Proof.Laws.OpcodeRowOf.of_check Sys2Proof.Laws.OpcodeRowOf.tax_rows
theorem Sys2Proof.Laws.OpcodeRowOf.tay :
    Sys2Proof.Laws.OpcodeRowOf.Statement (.tay) := Sys2Proof.Laws.OpcodeRowOf.of_check Sys2Proof.Laws.OpcodeRowOf.tay_rows
theorem Sys2Proof.Laws.OpcodeRowOf.txa :
    Sys2Proof.Laws.OpcodeRowOf.Statement (.txa) := Sys2Proof.Laws.OpcodeRowOf.of_check Sys2Proof.Laws.OpcodeRowOf.txa_rows
theorem Sys2Proof.Laws.OpcodeRowOf.tya :
    Sys2Proof.Laws.OpcodeRowOf.Statement (.tya) := Sys2Proof.Laws.OpcodeRowOf.of_check Sys2Proof.Laws.OpcodeRowOf.tya_rows
theorem Sys2Proof.Laws.OpcodeRowOf.tsx :
    Sys2Proof.Laws.OpcodeRowOf.Statement (.tsx) := Sys2Proof.Laws.OpcodeRowOf.of_check Sys2Proof.Laws.OpcodeRowOf.tsx_rows
theorem Sys2Proof.Laws.OpcodeRowOf.txs :
    Sys2Proof.Laws.OpcodeRowOf.Statement (.txs) := Sys2Proof.Laws.OpcodeRowOf.of_check Sys2Proof.Laws.OpcodeRowOf.txs_rows
theorem Sys2Proof.Laws.OpcodeRowOf.pha :
    Sys2Proof.Laws.OpcodeRowOf.Statement (.pha) := Sys2Proof.Laws.OpcodeRowOf.of_check Sys2Proof.Laws.OpcodeRowOf.pha_rows
theorem Sys2Proof.Laws.OpcodeRowOf.php :
    Sys2Proof.Laws.OpcodeRowOf.Statement (.php) := Sys2Proof.Laws.OpcodeRowOf.of_check Sys2Proof.Laws.OpcodeRowOf.php_rows
theorem Sys2Proof.Laws.OpcodeRowOf.pla :
    Sys2Proof.Laws.OpcodeRowOf.Statement (.pla) := Sys2Proof.Laws.OpcodeRowOf.of_check Sys2Proof.Laws.OpcodeRowOf.pla_rows
theorem Sys2Proof.Laws.OpcodeRowOf.plp :
    Sys2Proof.Laws.OpcodeRowOf.Statement (.plp) := Sys2Proof.Laws.OpcodeRowOf.of_check Sys2Proof.Laws.OpcodeRowOf.plp_rows
theorem Sys2Proof.Laws.OpcodeRowOf.adcImm (v : Sys2Proof.Byte) :
    Sys2Proof.Laws.OpcodeRowOf.Statement (.adcImm v) := Sys2Proof.Laws.OpcodeRowOf.of_check Sys2Proof.Laws.OpcodeRowOf.adc_rows.1
theorem Sys2Proof.Laws.OpcodeRowOf.adcZp (z : Sys2Proof.Byte) :
    Sys2Proof.Laws.OpcodeRowOf.Statement (.adcZp z) := Sys2Proof.Laws.OpcodeRowOf.of_check Sys2Proof.Laws.OpcodeRowOf.adc_rows.2.1
theorem Sys2Proof.Laws.OpcodeRowOf.adcZpX (z : Sys2Proof.Byte) :
    Sys2Proof.Laws.OpcodeRowOf.Statement (.adcZpX z) := Sys2Proof.Laws.OpcodeRowOf.of_check Sys2Proof.Laws.OpcodeRowOf.adc_rows.2.2.1
theorem Sys2Proof.Laws.OpcodeRowOf.adcAbs (a : Sys2Proof.Addr) :
    Sys2Proof.Laws.OpcodeRowOf.Statement (.adcAbs a) := Sys2Proof.Laws.OpcodeRowOf.of_check Sys2Proof.Laws.OpcodeRowOf.adc_rows.2.2.2.1
theorem Sys2Proof.Laws.OpcodeRowOf.adcAbsX (a : Sys2Proof.Addr) :
    Sys2Proof.Laws.OpcodeRowOf.Statement (.adcAbsX a) := Sys2Proof.Laws.OpcodeRowOf.of_check Sys2Proof.Laws.OpcodeRowOf.adc_rows.2.2.2.2.1
theorem Sys2Proof.Laws.OpcodeRowOf.adcAbsY (a : Sys2Proof.Addr) :
    Sys2Proof.Laws.OpcodeRowOf.Statement (.adcAbsY a) := Sys2Proof.Laws.OpcodeRowOf.of_check Sys2Proof.Laws.OpcodeRowOf.adc_rows.2.2.2.2.2.1
theorem Sys2Proof.Laws.OpcodeRowOf.adcIndX (z : Sys2Proof.Byte) :
    Sys2Proof.Laws.OpcodeRowOf.Statement (.adcIndX z) := Sys2Proof.Laws.OpcodeRowOf.of_check Sys2Proof.Laws.OpcodeRowOf.adc_rows.2.2.2.2.2.2.1
theorem Sys2Proof.Laws.OpcodeRowOf.adcIndY (z : Sys2Proof.Byte) :
    Sys2Proof.Laws.OpcodeRowOf.Statement (.adcIndY z) := Sys2Proof.Laws.OpcodeRowOf.of_check Sys2Proof.Laws.OpcodeRowOf.adc_rows.2.2.2.2.2.2.2
theorem Sys2Proof.Laws.OpcodeRowOf.sbcImm (v : Sys2Proof.Byte) :
    Sys2Proof.Laws.OpcodeRowOf.Statement (.sbcImm v) := Sys2Proof.Laws.OpcodeRowOf.of_check Sys2Proof.Laws.OpcodeRowOf.sbc_rows.1
theorem Sys2Proof.Laws.OpcodeRowOf.sbcZp (z : Sys2Proof.Byte) :
    Sys2Proof.Laws.OpcodeRowOf.Statement (.sbcZp z) := Sys2Proof.Laws.OpcodeRowOf.of_check Sys2Proof.Laws.OpcodeRowOf.sbc_rows.2.1
theorem Sys2Proof.Laws.OpcodeRowOf.sbcZpX (z : Sys2Proof.Byte) :
    Sys2Proof.Laws.OpcodeRowOf.Statement (.sbcZpX z) := Sys2Proof.Laws.OpcodeRowOf.of_check Sys2Proof.Laws.OpcodeRowOf.sbc_rows.2.2.1
theorem Sys2Proof.Laws.OpcodeRowOf.sbcAbs (a : Sys2Proof.Addr) :
    Sys2Proof.Laws.OpcodeRowOf.Statement (.sbcAbs a) := Sys2Proof.Laws.OpcodeRowOf.of_check Sys2Proof.Laws.OpcodeRowOf.sbc_rows.2.2.2.1
theorem Sys2Proof.Laws.OpcodeRowOf.sbcAbsX (a : Sys2Proof.Addr) :
    Sys2Proof.Laws.OpcodeRowOf.Statement (.sbcAbsX a) := Sys2Proof.Laws.OpcodeRowOf.of_check Sys2Proof.Laws.OpcodeRowOf.sbc_rows.2.2.2.2.1
theorem Sys2Proof.Laws.OpcodeRowOf.sbcAbsY (a : Sys2Proof.Addr) :
    Sys2Proof.Laws.OpcodeRowOf.Statement (.sbcAbsY a) := Sys2Proof.Laws.OpcodeRowOf.of_check Sys2Proof.Laws.OpcodeRowOf.sbc_rows.2.2.2.2.2.1
theorem Sys2Proof.Laws.OpcodeRowOf.sbcIndX (z : Sys2Proof.Byte) :
    Sys2Proof.Laws.OpcodeRowOf.Statement (.sbcIndX z) := Sys2Proof.Laws.OpcodeRowOf.of_check Sys2Proof.Laws.OpcodeRowOf.sbc_rows.2.2.2.2.2.2.1
theorem Sys2Proof.Laws.OpcodeRowOf.sbcIndY (z : Sys2Proof.Byte) :
    Sys2Proof.Laws.OpcodeRowOf.Statement (.sbcIndY z) := Sys2Proof.Laws.OpcodeRowOf.of_check Sys2Proof.Laws.OpcodeRowOf.sbc_rows.2.2.2.2.2.2.2
theorem Sys2Proof.Laws.OpcodeRowOf.andImm (v : Sys2Proof.Byte) :
    Sys2Proof.Laws.OpcodeRowOf.Statement (.andImm v) := Sys2Proof.Laws.OpcodeRowOf.of_check Sys2Proof.Laws.OpcodeRowOf.and_rows.1
theorem Sys2Proof.Laws.OpcodeRowOf.andZp (z : Sys2Proof.Byte) :
    Sys2Proof.Laws.OpcodeRowOf.Statement (.andZp z) := Sys2Proof.Laws.OpcodeRowOf.of_check Sys2Proof.Laws.OpcodeRowOf.and_rows.2.1
theorem Sys2Proof.Laws.OpcodeRowOf.andZpX (z : Sys2Proof.Byte) :
    Sys2Proof.Laws.OpcodeRowOf.Statement (.andZpX z) := Sys2Proof.Laws.OpcodeRowOf.of_check Sys2Proof.Laws.OpcodeRowOf.and_rows.2.2.1
theorem Sys2Proof.Laws.OpcodeRowOf.andAbs (a : Sys2Proof.Addr) :
    Sys2Proof.Laws.OpcodeRowOf.Statement (.andAbs a) := Sys2Proof.Laws.OpcodeRowOf.of_check Sys2Proof.Laws.OpcodeRowOf.and_rows.2.2.2.1
theorem Sys2Proof.Laws.OpcodeRowOf.andAbsX (a : Sys2Proof.Addr) :
    Sys2Proof.Laws.OpcodeRowOf.Statement (.andAbsX a) := Sys2Proof.Laws.OpcodeRowOf.of_check Sys2Proof.Laws.OpcodeRowOf.and_rows.2.2.2.2.1
theorem Sys2Proof.Laws.OpcodeRowOf.andAbsY (a : Sys2Proof.Addr) :
    Sys2Proof.Laws.OpcodeRowOf.Statement (.andAbsY a) := Sys2Proof.Laws.OpcodeRowOf.of_check Sys2Proof.Laws.OpcodeRowOf.and_rows.2.2.2.2.2.1
theorem Sys2Proof.Laws.OpcodeRowOf.andIndX (z : Sys2Proof.Byte) :
    Sys2Proof.Laws.OpcodeRowOf.Statement (.andIndX z) := Sys2Proof.Laws.OpcodeRowOf.of_check Sys2Proof.Laws.OpcodeRowOf.and_rows.2.2.2.2.2.2.1
theorem Sys2Proof.Laws.OpcodeRowOf.andIndY (z : Sys2Proof.Byte) :
    Sys2Proof.Laws.OpcodeRowOf.Statement (.andIndY z) := Sys2Proof.Laws.OpcodeRowOf.of_check Sys2Proof.Laws.OpcodeRowOf.and_rows.2.2.2.2.2.2.2
theorem Sys2Proof.Laws.OpcodeRowOf.oraImm (v : Sys2Proof.Byte) :
    Sys2Proof.Laws.OpcodeRowOf.Statement (.oraImm v) := Sys2Proof.Laws.OpcodeRowOf.of_check Sys2Proof.Laws.OpcodeRowOf.ora_rows.1
theorem Sys2Proof.Laws.OpcodeRowOf.oraZp (z : Sys2Proof.Byte) :
    Sys2Proof.Laws.OpcodeRowOf.Statement (.oraZp z) := Sys2Proof.Laws.OpcodeRowOf.of_check Sys2Proof.Laws.OpcodeRowOf.ora_rows.2.1
theorem Sys2Proof.Laws.OpcodeRowOf.oraZpX (z : Sys2Proof.Byte) :
    Sys2Proof.Laws.OpcodeRowOf.Statement (.oraZpX z) := Sys2Proof.Laws.OpcodeRowOf.of_check Sys2Proof.Laws.OpcodeRowOf.ora_rows.2.2.1
theorem Sys2Proof.Laws.OpcodeRowOf.oraAbs (a : Sys2Proof.Addr) :
    Sys2Proof.Laws.OpcodeRowOf.Statement (.oraAbs a) := Sys2Proof.Laws.OpcodeRowOf.of_check Sys2Proof.Laws.OpcodeRowOf.ora_rows.2.2.2.1
theorem Sys2Proof.Laws.OpcodeRowOf.oraAbsX (a : Sys2Proof.Addr) :
    Sys2Proof.Laws.OpcodeRowOf.Statement (.oraAbsX a) := Sys2Proof.Laws.OpcodeRowOf.of_check Sys2Proof.Laws.OpcodeRowOf.ora_rows.2.2.2.2.1
theorem Sys2Proof.Laws.OpcodeRowOf.oraAbsY (a : Sys2Proof.Addr) :
    Sys2Proof.Laws.OpcodeRowOf.Statement (.oraAbsY a) := Sys2Proof.Laws.OpcodeRowOf.of_check Sys2Proof.Laws.OpcodeRowOf.ora_rows.2.2.2.2.2.1
theorem Sys2Proof.Laws.OpcodeRowOf.oraIndX (z : Sys2Proof.Byte) :
    Sys2Proof.Laws.OpcodeRowOf.Statement (.oraIndX z) := Sys2Proof.Laws.OpcodeRowOf.of_check Sys2Proof.Laws.OpcodeRowOf.ora_rows.2.2.2.2.2.2.1
theorem Sys2Proof.Laws.OpcodeRowOf.oraIndY (z : Sys2Proof.Byte) :
    Sys2Proof.Laws.OpcodeRowOf.Statement (.oraIndY z) := Sys2Proof.Laws.OpcodeRowOf.of_check Sys2Proof.Laws.OpcodeRowOf.ora_rows.2.2.2.2.2.2.2
theorem Sys2Proof.Laws.OpcodeRowOf.eorImm (v : Sys2Proof.Byte) :
    Sys2Proof.Laws.OpcodeRowOf.Statement (.eorImm v) := Sys2Proof.Laws.OpcodeRowOf.of_check Sys2Proof.Laws.OpcodeRowOf.eor_rows.1
theorem Sys2Proof.Laws.OpcodeRowOf.eorZp (z : Sys2Proof.Byte) :
    Sys2Proof.Laws.OpcodeRowOf.Statement (.eorZp z) := Sys2Proof.Laws.OpcodeRowOf.of_check Sys2Proof.Laws.OpcodeRowOf.eor_rows.2.1
theorem Sys2Proof.Laws.OpcodeRowOf.eorZpX (z : Sys2Proof.Byte) :
    Sys2Proof.Laws.OpcodeRowOf.Statement (.eorZpX z) := Sys2Proof.Laws.OpcodeRowOf.of_check Sys2Proof.Laws.OpcodeRowOf.eor_rows.2.2.1
theorem Sys2Proof.Laws.OpcodeRowOf.eorAbs (a : Sys2Proof.Addr) :
    Sys2Proof.Laws.OpcodeRowOf.Statement (.eorAbs a) := Sys2Proof.Laws.OpcodeRowOf.of_check Sys2Proof.Laws.OpcodeRowOf.eor_rows.2.2.2.1
theorem Sys2Proof.Laws.OpcodeRowOf.eorAbsX (a : Sys2Proof.Addr) :
    Sys2Proof.Laws.OpcodeRowOf.Statement (.eorAbsX a) := Sys2Proof.Laws.OpcodeRowOf.of_check Sys2Proof.Laws.OpcodeRowOf.eor_rows.2.2.2.2.1
theorem Sys2Proof.Laws.OpcodeRowOf.eorAbsY (a : Sys2Proof.Addr) :
    Sys2Proof.Laws.OpcodeRowOf.Statement (.eorAbsY a) := Sys2Proof.Laws.OpcodeRowOf.of_check Sys2Proof.Laws.OpcodeRowOf.eor_rows.2.2.2.2.2.1
theorem Sys2Proof.Laws.OpcodeRowOf.eorIndX (z : Sys2Proof.Byte) :
    Sys2Proof.Laws.OpcodeRowOf.Statement (.eorIndX z) := Sys2Proof.Laws.OpcodeRowOf.of_check Sys2Proof.Laws.OpcodeRowOf.eor_rows.2.2.2.2.2.2.1
theorem Sys2Proof.Laws.OpcodeRowOf.eorIndY (z : Sys2Proof.Byte) :
    Sys2Proof.Laws.OpcodeRowOf.Statement (.eorIndY z) := Sys2Proof.Laws.OpcodeRowOf.of_check Sys2Proof.Laws.OpcodeRowOf.eor_rows.2.2.2.2.2.2.2
theorem Sys2Proof.Laws.OpcodeRowOf.cmpImm (v : Sys2Proof.Byte) :
    Sys2Proof.Laws.OpcodeRowOf.Statement (.cmpImm v) := Sys2Proof.Laws.OpcodeRowOf.of_check Sys2Proof.Laws.OpcodeRowOf.cmp_rows.1
theorem Sys2Proof.Laws.OpcodeRowOf.cmpZp (z : Sys2Proof.Byte) :
    Sys2Proof.Laws.OpcodeRowOf.Statement (.cmpZp z) := Sys2Proof.Laws.OpcodeRowOf.of_check Sys2Proof.Laws.OpcodeRowOf.cmp_rows.2.1
theorem Sys2Proof.Laws.OpcodeRowOf.cmpZpX (z : Sys2Proof.Byte) :
    Sys2Proof.Laws.OpcodeRowOf.Statement (.cmpZpX z) := Sys2Proof.Laws.OpcodeRowOf.of_check Sys2Proof.Laws.OpcodeRowOf.cmp_rows.2.2.1
theorem Sys2Proof.Laws.OpcodeRowOf.cmpAbs (a : Sys2Proof.Addr) :
    Sys2Proof.Laws.OpcodeRowOf.Statement (.cmpAbs a) := Sys2Proof.Laws.OpcodeRowOf.of_check Sys2Proof.Laws.OpcodeRowOf.cmp_rows.2.2.2.1
theorem Sys2Proof.Laws.OpcodeRowOf.cmpAbsX (a : Sys2Proof.Addr) :
    Sys2Proof.Laws.OpcodeRowOf.Statement (.cmpAbsX a) := Sys2Proof.Laws.OpcodeRowOf.of_check Sys2Proof.Laws.OpcodeRowOf.cmp_rows.2.2.2.2.1
theorem Sys2Proof.Laws.OpcodeRowOf.cmpAbsY (a : Sys2Proof.Addr) :
    Sys2Proof.Laws.OpcodeRowOf.Statement (.cmpAbsY a) := Sys2Proof.Laws.OpcodeRowOf.of_check Sys2Proof.Laws.OpcodeRowOf.cmp_rows.2.2.2.2.2.1
theorem Sys2Proof.Laws.OpcodeRowOf.cmpIndX (z : Sys2Proof.Byte) :
    Sys2Proof.Laws.OpcodeRowOf.Statement (.cmpIndX z) := Sys2Proof.Laws.OpcodeRowOf.of_check Sys2Proof.Laws.OpcodeRowOf.cmp_rows.2.2.2.2.2.2.1
theorem Sys2Proof.Laws.OpcodeRowOf.cmpIndY (z : Sys2Proof.Byte) :
    Sys2Proof.Laws.OpcodeRowOf.Statement (.cmpIndY z) := Sys2Proof.Laws.OpcodeRowOf.of_check Sys2Proof.Laws.OpcodeRowOf.cmp_rows.2.2.2.2.2.2.2
theorem Sys2Proof.Laws.OpcodeRowOf.cpxImm (v : Sys2Proof.Byte) :
    Sys2Proof.Laws.OpcodeRowOf.Statement (.cpxImm v) := Sys2Proof.Laws.OpcodeRowOf.of_check Sys2Proof.Laws.OpcodeRowOf.cpx_rows.1
theorem Sys2Proof.Laws.OpcodeRowOf.cpxZp (z : Sys2Proof.Byte) :
    Sys2Proof.Laws.OpcodeRowOf.Statement (.cpxZp z) := Sys2Proof.Laws.OpcodeRowOf.of_check Sys2Proof.Laws.OpcodeRowOf.cpx_rows.2.1
theorem Sys2Proof.Laws.OpcodeRowOf.cpxAbs (a : Sys2Proof.Addr) :
    Sys2Proof.Laws.OpcodeRowOf.Statement (.cpxAbs a) := Sys2Proof.Laws.OpcodeRowOf.of_check Sys2Proof.Laws.OpcodeRowOf.cpx_rows.2.2
theorem Sys2Proof.Laws.OpcodeRowOf.cpyImm (v : Sys2Proof.Byte) :
    Sys2Proof.Laws.OpcodeRowOf.Statement (.cpyImm v) := Sys2Proof.Laws.OpcodeRowOf.of_check Sys2Proof.Laws.OpcodeRowOf.cpy_rows.1
theorem Sys2Proof.Laws.OpcodeRowOf.cpyZp (z : Sys2Proof.Byte) :
    Sys2Proof.Laws.OpcodeRowOf.Statement (.cpyZp z) := Sys2Proof.Laws.OpcodeRowOf.of_check Sys2Proof.Laws.OpcodeRowOf.cpy_rows.2.1
theorem Sys2Proof.Laws.OpcodeRowOf.cpyAbs (a : Sys2Proof.Addr) :
    Sys2Proof.Laws.OpcodeRowOf.Statement (.cpyAbs a) := Sys2Proof.Laws.OpcodeRowOf.of_check Sys2Proof.Laws.OpcodeRowOf.cpy_rows.2.2
theorem Sys2Proof.Laws.OpcodeRowOf.bitZp (z : Sys2Proof.Byte) :
    Sys2Proof.Laws.OpcodeRowOf.Statement (.bitZp z) := Sys2Proof.Laws.OpcodeRowOf.of_check Sys2Proof.Laws.OpcodeRowOf.bit_rows.1
theorem Sys2Proof.Laws.OpcodeRowOf.bitAbs (a : Sys2Proof.Addr) :
    Sys2Proof.Laws.OpcodeRowOf.Statement (.bitAbs a) := Sys2Proof.Laws.OpcodeRowOf.of_check Sys2Proof.Laws.OpcodeRowOf.bit_rows.2
theorem Sys2Proof.Laws.OpcodeRowOf.aslAcc :
    Sys2Proof.Laws.OpcodeRowOf.Statement (.aslAcc) := Sys2Proof.Laws.OpcodeRowOf.of_check Sys2Proof.Laws.OpcodeRowOf.asl_rows.1
theorem Sys2Proof.Laws.OpcodeRowOf.aslZp (z : Sys2Proof.Byte) :
    Sys2Proof.Laws.OpcodeRowOf.Statement (.aslZp z) := Sys2Proof.Laws.OpcodeRowOf.of_check Sys2Proof.Laws.OpcodeRowOf.asl_rows.2.1
theorem Sys2Proof.Laws.OpcodeRowOf.aslZpX (z : Sys2Proof.Byte) :
    Sys2Proof.Laws.OpcodeRowOf.Statement (.aslZpX z) := Sys2Proof.Laws.OpcodeRowOf.of_check Sys2Proof.Laws.OpcodeRowOf.asl_rows.2.2.1
theorem Sys2Proof.Laws.OpcodeRowOf.aslAbs (a : Sys2Proof.Addr) :
    Sys2Proof.Laws.OpcodeRowOf.Statement (.aslAbs a) := Sys2Proof.Laws.OpcodeRowOf.of_check Sys2Proof.Laws.OpcodeRowOf.asl_rows.2.2.2.1
theorem Sys2Proof.Laws.OpcodeRowOf.aslAbsX (a : Sys2Proof.Addr) :
    Sys2Proof.Laws.OpcodeRowOf.Statement (.aslAbsX a) := Sys2Proof.Laws.OpcodeRowOf.of_check Sys2Proof.Laws.OpcodeRowOf.asl_rows.2.2.2.2
theorem Sys2Proof.Laws.OpcodeRowOf.lsrAcc :
    Sys2Proof.Laws.OpcodeRowOf.Statement (.lsrAcc) := Sys2Proof.Laws.OpcodeRowOf.of_check Sys2Proof.Laws.OpcodeRowOf.lsr_rows.1
theorem Sys2Proof.Laws.OpcodeRowOf.lsrZp (z : Sys2Proof.Byte) :
    Sys2Proof.Laws.OpcodeRowOf.Statement (.lsrZp z) := Sys2Proof.Laws.OpcodeRowOf.of_check Sys2Proof.Laws.OpcodeRowOf.lsr_rows.2.1
theorem Sys2Proof.Laws.OpcodeRowOf.lsrZpX (z : Sys2Proof.Byte) :
    Sys2Proof.Laws.OpcodeRowOf.Statement (.lsrZpX z) := Sys2Proof.Laws.OpcodeRowOf.of_check Sys2Proof.Laws.OpcodeRowOf.lsr_rows.2.2.1
theorem Sys2Proof.Laws.OpcodeRowOf.lsrAbs (a : Sys2Proof.Addr) :
    Sys2Proof.Laws.OpcodeRowOf.Statement (.lsrAbs a) := Sys2Proof.Laws.OpcodeRowOf.of_check Sys2Proof.Laws.OpcodeRowOf.lsr_rows.2.2.2.1
theorem Sys2Proof.Laws.OpcodeRowOf.lsrAbsX (a : Sys2Proof.Addr) :
    Sys2Proof.Laws.OpcodeRowOf.Statement (.lsrAbsX a) := Sys2Proof.Laws.OpcodeRowOf.of_check Sys2Proof.Laws.OpcodeRowOf.lsr_rows.2.2.2.2
theorem Sys2Proof.Laws.OpcodeRowOf.rolAcc :
    Sys2Proof.Laws.OpcodeRowOf.Statement (.rolAcc) := Sys2Proof.Laws.OpcodeRowOf.of_check Sys2Proof.Laws.OpcodeRowOf.rol_rows.1
theorem Sys2Proof.Laws.OpcodeRowOf.rolZp (z : Sys2Proof.Byte) :
    Sys2Proof.Laws.OpcodeRowOf.Statement (.rolZp z) := Sys2Proof.Laws.OpcodeRowOf.of_check Sys2Proof.Laws.OpcodeRowOf.rol_rows.2.1
theorem Sys2Proof.Laws.OpcodeRowOf.rolZpX (z : Sys2Proof.Byte) :
    Sys2Proof.Laws.OpcodeRowOf.Statement (.rolZpX z) := Sys2Proof.Laws.OpcodeRowOf.of_check Sys2Proof.Laws.OpcodeRowOf.rol_rows.2.2.1
theorem Sys2Proof.Laws.OpcodeRowOf.rolAbs (a : Sys2Proof.Addr) :
    Sys2Proof.Laws.OpcodeRowOf.Statement (.rolAbs a) := Sys2Proof.Laws.OpcodeRowOf.of_check Sys2Proof.Laws.OpcodeRowOf.rol_rows.2.2.2.1
theorem Sys2Proof.Laws.OpcodeRowOf.rolAbsX (a : Sys2Proof.Addr) :
    Sys2Proof.Laws.OpcodeRowOf.Statement (.rolAbsX a) := Sys2Proof.Laws.OpcodeRowOf.of_check Sys2Proof.Laws.OpcodeRowOf.rol_rows.2.2.2.2
theorem Sys2Proof.Laws.OpcodeRowOf.rorAcc :
    Sys2Proof.Laws.OpcodeRowOf.Statement (.rorAcc) := Sys2Proof.Laws.OpcodeRowOf.of_check Sys2Proof.Laws.OpcodeRowOf.ror_rows.1
theorem Sys2Proof.Laws.OpcodeRowOf.rorZp (z : Sys2Proof.Byte) :
    Sys2Proof.Laws.OpcodeRowOf.Statement (.rorZp z) := Sys2Proof.Laws.OpcodeRowOf.of_check Sys2Proof.Laws.OpcodeRowOf.ror_rows.2.1
theorem Sys2Proof.Laws.OpcodeRowOf.rorZpX (z : Sys2Proof.Byte) :
    Sys2Proof.Laws.OpcodeRowOf.Statement (.rorZpX z) := Sys2Proof.Laws.OpcodeRowOf.of_check Sys2Proof.Laws.OpcodeRowOf.ror_rows.2.2.1
theorem Sys2Proof.Laws.OpcodeRowOf.rorAbs (a : Sys2Proof.Addr) :
    Sys2Proof.Laws.OpcodeRowOf.Statement (.rorAbs a) := Sys2Proof.Laws.OpcodeRowOf.of_check Sys2Proof.Laws.OpcodeRowOf.ror_rows.2.2.2.1
theorem Sys2Proof.Laws.OpcodeRowOf.rorAbsX (a : Sys2Proof.Addr) :
    Sys2Proof.Laws.OpcodeRowOf.Statement (.rorAbsX a) := Sys2Proof.Laws.OpcodeRowOf.of_check Sys2Proof.Laws.OpcodeRowOf.ror_rows.2.2.2.2
theorem Sys2Proof.Laws.OpcodeRowOf.incZp (z : Sys2Proof.Byte) :
    Sys2Proof.Laws.OpcodeRowOf.Statement (.incZp z) := Sys2Proof.Laws.OpcodeRowOf.of_check Sys2Proof.Laws.OpcodeRowOf.inc_rows.1
theorem Sys2Proof.Laws.OpcodeRowOf.incZpX (z : Sys2Proof.Byte) :
    Sys2Proof.Laws.OpcodeRowOf.Statement (.incZpX z) := Sys2Proof.Laws.OpcodeRowOf.of_check Sys2Proof.Laws.OpcodeRowOf.inc_rows.2.1
theorem Sys2Proof.Laws.OpcodeRowOf.incAbs (a : Sys2Proof.Addr) :
    Sys2Proof.Laws.OpcodeRowOf.Statement (.incAbs a) := Sys2Proof.Laws.OpcodeRowOf.of_check Sys2Proof.Laws.OpcodeRowOf.inc_rows.2.2.1
theorem Sys2Proof.Laws.OpcodeRowOf.incAbsX (a : Sys2Proof.Addr) :
    Sys2Proof.Laws.OpcodeRowOf.Statement (.incAbsX a) := Sys2Proof.Laws.OpcodeRowOf.of_check Sys2Proof.Laws.OpcodeRowOf.inc_rows.2.2.2
theorem Sys2Proof.Laws.OpcodeRowOf.decZp (z : Sys2Proof.Byte) :
    Sys2Proof.Laws.OpcodeRowOf.Statement (.decZp z) := Sys2Proof.Laws.OpcodeRowOf.of_check Sys2Proof.Laws.OpcodeRowOf.dec_rows.1
theorem Sys2Proof.Laws.OpcodeRowOf.decZpX (z : Sys2Proof.Byte) :
    Sys2Proof.Laws.OpcodeRowOf.Statement (.decZpX z) := Sys2Proof.Laws.OpcodeRowOf.of_check Sys2Proof.Laws.OpcodeRowOf.dec_rows.2.1
theorem Sys2Proof.Laws.OpcodeRowOf.decAbs (a : Sys2Proof.Addr) :
    Sys2Proof.Laws.OpcodeRowOf.Statement (.decAbs a) := Sys2Proof.Laws.OpcodeRowOf.of_check Sys2Proof.Laws.OpcodeRowOf.dec_rows.2.2.1
theorem Sys2Proof.Laws.OpcodeRowOf.decAbsX (a : Sys2Proof.Addr) :
    Sys2Proof.Laws.OpcodeRowOf.Statement (.decAbsX a) := Sys2Proof.Laws.OpcodeRowOf.of_check Sys2Proof.Laws.OpcodeRowOf.dec_rows.2.2.2
theorem Sys2Proof.Laws.OpcodeRowOf.inx :
    Sys2Proof.Laws.OpcodeRowOf.Statement (.inx) := Sys2Proof.Laws.OpcodeRowOf.of_check Sys2Proof.Laws.OpcodeRowOf.inx_rows
theorem Sys2Proof.Laws.OpcodeRowOf.iny :
    Sys2Proof.Laws.OpcodeRowOf.Statement (.iny) := Sys2Proof.Laws.OpcodeRowOf.of_check Sys2Proof.Laws.OpcodeRowOf.iny_rows
theorem Sys2Proof.Laws.OpcodeRowOf.dex :
    Sys2Proof.Laws.OpcodeRowOf.Statement (.dex) := Sys2Proof.Laws.OpcodeRowOf.of_check Sys2Proof.Laws.OpcodeRowOf.dex_rows
theorem Sys2Proof.Laws.OpcodeRowOf.dey :
    Sys2Proof.Laws.OpcodeRowOf.Statement (.dey) := Sys2Proof.Laws.OpcodeRowOf.of_check Sys2Proof.Laws.OpcodeRowOf.dey_rows
theorem Sys2Proof.Laws.OpcodeRowOf.jmpAbs (a : Sys2Proof.Addr) :
    Sys2Proof.Laws.OpcodeRowOf.Statement (.jmpAbs a) := Sys2Proof.Laws.OpcodeRowOf.of_check Sys2Proof.Laws.OpcodeRowOf.jmp_rows.1
theorem Sys2Proof.Laws.OpcodeRowOf.jmpInd (a : Sys2Proof.Addr) :
    Sys2Proof.Laws.OpcodeRowOf.Statement (.jmpInd a) := Sys2Proof.Laws.OpcodeRowOf.of_check Sys2Proof.Laws.OpcodeRowOf.jmp_rows.2
theorem Sys2Proof.Laws.OpcodeRowOf.jsrAbs (a : Sys2Proof.Addr) :
    Sys2Proof.Laws.OpcodeRowOf.Statement (.jsrAbs a) := Sys2Proof.Laws.OpcodeRowOf.of_check Sys2Proof.Laws.OpcodeRowOf.jsr_rows
theorem Sys2Proof.Laws.OpcodeRowOf.rts :
    Sys2Proof.Laws.OpcodeRowOf.Statement (.rts) := Sys2Proof.Laws.OpcodeRowOf.of_check Sys2Proof.Laws.OpcodeRowOf.rts_rows
theorem Sys2Proof.Laws.OpcodeRowOf.bpl (d : Int) :
    Sys2Proof.Laws.OpcodeRowOf.Statement (.bpl d) := Sys2Proof.Laws.OpcodeRowOf.of_check Sys2Proof.Laws.OpcodeRowOf.bpl_rows
theorem Sys2Proof.Laws.OpcodeRowOf.bmi (d : Int) :
    Sys2Proof.Laws.OpcodeRowOf.Statement (.bmi d) := Sys2Proof.Laws.OpcodeRowOf.of_check Sys2Proof.Laws.OpcodeRowOf.bmi_rows
theorem Sys2Proof.Laws.OpcodeRowOf.bvc (d : Int) :
    Sys2Proof.Laws.OpcodeRowOf.Statement (.bvc d) := Sys2Proof.Laws.OpcodeRowOf.of_check Sys2Proof.Laws.OpcodeRowOf.bvc_rows
theorem Sys2Proof.Laws.OpcodeRowOf.bvs (d : Int) :
    Sys2Proof.Laws.OpcodeRowOf.Statement (.bvs d) := Sys2Proof.Laws.OpcodeRowOf.of_check Sys2Proof.Laws.OpcodeRowOf.bvs_rows
theorem Sys2Proof.Laws.OpcodeRowOf.bcc (d : Int) :
    Sys2Proof.Laws.OpcodeRowOf.Statement (.bcc d) := Sys2Proof.Laws.OpcodeRowOf.of_check Sys2Proof.Laws.OpcodeRowOf.bcc_rows
theorem Sys2Proof.Laws.OpcodeRowOf.bcs (d : Int) :
    Sys2Proof.Laws.OpcodeRowOf.Statement (.bcs d) := Sys2Proof.Laws.OpcodeRowOf.of_check Sys2Proof.Laws.OpcodeRowOf.bcs_rows
theorem Sys2Proof.Laws.OpcodeRowOf.bne (d : Int) :
    Sys2Proof.Laws.OpcodeRowOf.Statement (.bne d) := Sys2Proof.Laws.OpcodeRowOf.of_check Sys2Proof.Laws.OpcodeRowOf.bne_rows
theorem Sys2Proof.Laws.OpcodeRowOf.beq (d : Int) :
    Sys2Proof.Laws.OpcodeRowOf.Statement (.beq d) := Sys2Proof.Laws.OpcodeRowOf.of_check Sys2Proof.Laws.OpcodeRowOf.beq_rows
theorem Sys2Proof.Laws.OpcodeRowOf.brk :
    Sys2Proof.Laws.OpcodeRowOf.Statement (.brk) := Sys2Proof.Laws.OpcodeRowOf.of_check Sys2Proof.Laws.OpcodeRowOf.brk_rows
theorem Sys2Proof.Laws.OpcodeRowOf.rti :
    Sys2Proof.Laws.OpcodeRowOf.Statement (.rti) := Sys2Proof.Laws.OpcodeRowOf.of_check Sys2Proof.Laws.OpcodeRowOf.rti_rows
theorem Sys2Proof.Laws.OpcodeRowOf.clc :
    Sys2Proof.Laws.OpcodeRowOf.Statement (.clc) := Sys2Proof.Laws.OpcodeRowOf.of_check Sys2Proof.Laws.OpcodeRowOf.clc_rows
theorem Sys2Proof.Laws.OpcodeRowOf.sec :
    Sys2Proof.Laws.OpcodeRowOf.Statement (.sec) := Sys2Proof.Laws.OpcodeRowOf.of_check Sys2Proof.Laws.OpcodeRowOf.sec_rows
theorem Sys2Proof.Laws.OpcodeRowOf.cli :
    Sys2Proof.Laws.OpcodeRowOf.Statement (.cli) := Sys2Proof.Laws.OpcodeRowOf.of_check Sys2Proof.Laws.OpcodeRowOf.cli_rows
theorem Sys2Proof.Laws.OpcodeRowOf.sei :
    Sys2Proof.Laws.OpcodeRowOf.Statement (.sei) := Sys2Proof.Laws.OpcodeRowOf.of_check Sys2Proof.Laws.OpcodeRowOf.sei_rows
theorem Sys2Proof.Laws.OpcodeRowOf.clv :
    Sys2Proof.Laws.OpcodeRowOf.Statement (.clv) := Sys2Proof.Laws.OpcodeRowOf.of_check Sys2Proof.Laws.OpcodeRowOf.clv_rows
theorem Sys2Proof.Laws.OpcodeRowOf.cld :
    Sys2Proof.Laws.OpcodeRowOf.Statement (.cld) := Sys2Proof.Laws.OpcodeRowOf.of_check Sys2Proof.Laws.OpcodeRowOf.cld_rows
theorem Sys2Proof.Laws.OpcodeRowOf.sed :
    Sys2Proof.Laws.OpcodeRowOf.Statement (.sed) := Sys2Proof.Laws.OpcodeRowOf.of_check Sys2Proof.Laws.OpcodeRowOf.sed_rows
theorem Sys2Proof.Laws.OpcodeRowOf.nop :
    Sys2Proof.Laws.OpcodeRowOf.Statement (.nop) := Sys2Proof.Laws.OpcodeRowOf.of_check Sys2Proof.Laws.OpcodeRowOf.nop_rows

end
end

