-- ==== Sys2Proof/Laws/Shapes.lean ====
section
/-! SUPPORT. One lemma per shape of instruction of Machine/Operands.lean: the next state it answers, with the program counter and the
cost in terms of the state before. -/

namespace Sys2Proof.Machine

theorem dataRead_latchedReads (o : Operand) (s : State) : LatchedReads s (dataRead o s).2 := by
  rw [← operandRead_eq_dataRead]
  exact operandRead_latchedReads o s

/-- A bus read keeps what the address computation latched. -/
theorem dataRead_pageCrossed (o : Operand) (s : State) :
    (dataRead o s).2.cpu.pageCrossed = (address o s).cpu.pageCrossed := by
  cases o <;> simp only [dataRead] <;> rw [(cpuRead_readsOnly _ _).cpu]

theorem dataRead_ea (o : Operand) (s : State) : (dataRead o s).2.cpu.ea = (address o s).cpu.ea := by
  cases o <;> simp only [dataRead] <;> rw [(cpuRead_readsOnly _ _).cpu]

theorem dataRead_mode (o : Operand) (s : State) : (dataRead o s).2.cpu.mode = (address o s).cpu.mode := by
  cases o <;> simp only [dataRead] <;> rw [(cpuRead_readsOnly _ _).cpu]

/-- A register-reading instruction: its effect on the state after the data read, `PC` past it, its cost. -/
theorem readInstr_eq (o : Operand) (base : Nat) (plusP : Bool) (f : State → Byte → State) (s : State)
    (hf : ∀ t v, (f t v).cpu.pc = t.cpu.pc) :
    readInstr o base plusP f s = .next
      { f (dataRead o s).2 (dataRead o s).1 with
        cpu := { (f (dataRead o s).2 (dataRead o s).1).cpu with
          pc := s.cpu.pc + BitVec.ofNat 16 o.length,
          countdown := base + if plusP && (address o s).cpu.pageCrossed then 1 else 0 } } := by
  simp only [readInstr, operandRead_eq_dataRead, retire, State.setPc, State.setCountdown, pagePenalty, hf,
    (dataRead_latchedReads o s).pc, dataRead_pageCrossed]

/-- A store: one bus write of the register at the effective address, `PC` past it, its cost. -/
theorem storeInstr_eq (o : Operand) (base : Nat) (reg : Cpu → Byte) (s : State)
    (hr : reg (address o s).cpu = reg s.cpu) :
    storeInstr o base reg s = .next
      { cpuWrite (address o s).cpu.ea (reg s.cpu) (address o s) with
        cpu := { (cpuWrite (address o s).cpu.ea (reg s.cpu) (address o s)).cpu with
          pc := s.cpu.pc + BitVec.ofNat 16 o.length, countdown := base } } := by
  have hpc : (cpuWrite (address o s).cpu.ea (reg s.cpu) (address o s)).cpu.pc = s.cpu.pc := by
    rw [(cpuWrite_busOnly _ _ _).cpu]
    exact (address_latchedReads o s).pc
  simp only [storeInstr, retire, State.setPc, State.setCountdown, hr, hpc]

/-- The write of a result keeps the program counter. -/
theorem operandWrite_pc (o : Operand) (v : Byte) (s : State) : (operandWrite o v s).cpu.pc = s.cpu.pc := by
  cases o <;> simp only [operandWrite, State.setA] <;> rw [(cpuWrite_busOnly _ _ _).cpu]

/-- A shift or rotate: the data read, C, the result put, Z and N, `PC` past it, its cost. -/
theorem shiftInstr_eq (o : Operand) (base : Nat) (f : ShiftFn) (s : State) :
    shiftInstr o base f s = .next
      (let r := dataRead o s
       let out := f r.1 s.cpu.p.c
       let s3 := operandWrite o out.1 { r.2 with cpu := { r.2.cpu with p := { s.cpu.p with c := out.2 } } }
       { s3 with cpu := { s3.cpu with
          p := s3.cpu.p.setZN out.1, pc := s.cpu.pc + BitVec.ofNat 16 o.length, countdown := base } }) := by
  simp only [shiftInstr, operandRead_eq_dataRead, (dataRead_latchedReads o s).p, retire, State.setPc, State.setCountdown,
    State.setZN, State.setP, operandWrite_pc, (dataRead_latchedReads o s).pc]

/-- INC and DEC: the data read, the result put, Z and N, `PC` past it, its cost. -/
theorem modifyInstr_eq (o : Operand) (base : Nat) (f : Byte → Byte) (s : State) :
    modifyInstr o base f s = .next
      (let r := dataRead o s
       let s3 := operandWrite o (f r.1) r.2
       { s3 with cpu := { s3.cpu with
          p := s3.cpu.p.setZN (f r.1), pc := s.cpu.pc + BitVec.ofNat 16 o.length, countdown := base } }) := by
  simp only [modifyInstr, operandRead_eq_dataRead, retire, State.setPc, State.setCountdown,
    State.setZN, State.setP, operandWrite_pc, (dataRead_latchedReads o s).pc]

/-- `SetZN` by the sign bit and `SetZN` by comparison are one. -/
theorem Flags.setZN_eq_znOf (p : Flags) (v : Byte) : p.setZN v = p.znOf v := by
  have h : v.getLsbD 7 = decide (128 ≤ v.toNat) := by
    have h : ∀ n : Fin 256, (BitVec.ofFin n : Byte).getLsbD 7 = decide (128 ≤ n.val) := by decide +kernel
    exact h v.toFin
  have h0 : (v == 0) = decide (v = 0) := rfl
  simp only [Flags.setZN, Flags.znOf, h, h0]

/-- Every instruction answers a next state. -/
theorem exec_next (i : Instr) (s : State) : ∃ t, exec i s = .next t := by
  cases i <;> first | exact ⟨_, rfl⟩ | (simp only [exec, execBpl, execBmi, execBvc, execBvs, execBcc, execBcs, execBne, execBeq, branchInstr]; split <;> exact ⟨_, rfl⟩)

end Sys2Proof.Machine
end

