-- ==== Sys2Proof/Tests/Slice0.lean ====
section
/-! SUPPORT. Tests of the model against the spec's own examples and vectors, the decoding of every constructor by words from the
encoding tables, the well-formedness smoke test, and a witness for the hypotheses of every statement. -/

section

-- One theorem after the other: each is a kernel evaluation, and together they would need too many threads.
set_option Elab.async false

open Sys2Proof Sys2Proof.Machine

namespace Sys2Proof.Tests

/-! Well-formedness: a branch offset outside -128 to 127 is refused (30_encoding.md R173). -/

theorem test_illformed_offset_above : Instr.wellFormed (.bne 128) = false := by decide

theorem test_illformed_offset_below : Instr.wellFormed (.bpl (-129)) = false := by decide

theorem test_wellformed_offset_bounds : Instr.wellFormed (.bne 127) = true ∧ Instr.wellFormed (.beq (-128)) = true := by decide

/-! Decoding: one word for every constructor, written out from the encoding tables of files 40 to 45; the operand bytes are 0x34 and
0x12, or 0xF9 (-7) for a branch. -/

/-- The bytes decode to the instruction, with nothing left over. -/
def decodesTo (bytes : List Byte) (i : Instr) : Bool :=
  match decode bytes with
  | .ok (j, []) => decide (j = i)
  | _ => false

/-- 40_load_store.md R202 to R204. -/
theorem test_decode_loads :
    decodesTo [0xA1, 0x34] (.ldaIndX 0x34) = true ∧
    decodesTo [0xA5, 0x34] (.ldaZp 0x34) = true ∧
    decodesTo [0xA9, 0x34] (.ldaImm 0x34) = true ∧
    decodesTo [0xAD, 0x34, 0x12] (.ldaAbs 0x1234) = true ∧
    decodesTo [0xB1, 0x34] (.ldaIndY 0x34) = true ∧
    decodesTo [0xB5, 0x34] (.ldaZpX 0x34) = true ∧
    decodesTo [0xB9, 0x34, 0x12] (.ldaAbsY 0x1234) = true ∧
    decodesTo [0xBD, 0x34, 0x12] (.ldaAbsX 0x1234) = true ∧
    decodesTo [0xA2, 0x34] (.ldxImm 0x34) = true ∧
    decodesTo [0xA6, 0x34] (.ldxZp 0x34) = true ∧
    decodesTo [0xAE, 0x34, 0x12] (.ldxAbs 0x1234) = true ∧
    decodesTo [0xB6, 0x34] (.ldxZpY 0x34) = true ∧
    decodesTo [0xBE, 0x34, 0x12] (.ldxAbsY 0x1234) = true ∧
    decodesTo [0xA0, 0x34] (.ldyImm 0x34) = true ∧
    decodesTo [0xA4, 0x34] (.ldyZp 0x34) = true ∧
    decodesTo [0xAC, 0x34, 0x12] (.ldyAbs 0x1234) = true ∧
    decodesTo [0xB4, 0x34] (.ldyZpX 0x34) = true ∧
    decodesTo [0xBC, 0x34, 0x12] (.ldyAbsX 0x1234) = true := by decide +kernel

/-- 40_load_store.md R205 to R207. -/
theorem test_decode_stores :
    decodesTo [0x81, 0x34] (.staIndX 0x34) = true ∧
    decodesTo [0x85, 0x34] (.staZp 0x34) = true ∧
    decodesTo [0x8D, 0x34, 0x12] (.staAbs 0x1234) = true ∧
    decodesTo [0x91, 0x34] (.staIndY 0x34) = true ∧
    decodesTo [0x95, 0x34] (.staZpX 0x34) = true ∧
    decodesTo [0x99, 0x34, 0x12] (.staAbsY 0x1234) = true ∧
    decodesTo [0x9D, 0x34, 0x12] (.staAbsX 0x1234) = true ∧
    decodesTo [0x86, 0x34] (.stxZp 0x34) = true ∧
    decodesTo [0x8E, 0x34, 0x12] (.stxAbs 0x1234) = true ∧
    decodesTo [0x96, 0x34] (.stxZpY 0x34) = true ∧
    decodesTo [0x84, 0x34] (.styZp 0x34) = true ∧
    decodesTo [0x8C, 0x34, 0x12] (.styAbs 0x1234) = true ∧
    decodesTo [0x94, 0x34] (.styZpX 0x34) = true := by decide +kernel

/-- 41_transfer_stack.md R222 to R231. -/
theorem test_decode_transfers_and_stack :
    decodesTo [0xAA] .tax = true ∧
    decodesTo [0xA8] .tay = true ∧
    decodesTo [0x8A] .txa = true ∧
    decodesTo [0x98] .tya = true ∧
    decodesTo [0xBA] .tsx = true ∧
    decodesTo [0x9A] .txs = true ∧
    decodesTo [0x48] .pha = true ∧
    decodesTo [0x08] .php = true ∧
    decodesTo [0x68] .pla = true ∧
    decodesTo [0x28] .plp = true := by decide +kernel

/-- 42_alu.md R242, R243. -/
theorem test_decode_add_subtract :
    decodesTo [0x61, 0x34] (.adcIndX 0x34) = true ∧
    decodesTo [0x65, 0x34] (.adcZp 0x34) = true ∧
    decodesTo [0x69, 0x34] (.adcImm 0x34) = true ∧
    decodesTo [0x6D, 0x34, 0x12] (.adcAbs 0x1234) = true ∧
    decodesTo [0x71, 0x34] (.adcIndY 0x34) = true ∧
    decodesTo [0x75, 0x34] (.adcZpX 0x34) = true ∧
    decodesTo [0x79, 0x34, 0x12] (.adcAbsY 0x1234) = true ∧
    decodesTo [0x7D, 0x34, 0x12] (.adcAbsX 0x1234) = true ∧
    decodesTo [0xE1, 0x34] (.sbcIndX 0x34) = true ∧
    decodesTo [0xE5, 0x34] (.sbcZp 0x34) = true ∧
    decodesTo [0xE9, 0x34] (.sbcImm 0x34) = true ∧
    decodesTo [0xED, 0x34, 0x12] (.sbcAbs 0x1234) = true ∧
    decodesTo [0xF1, 0x34] (.sbcIndY 0x34) = true ∧
    decodesTo [0xF5, 0x34] (.sbcZpX 0x34) = true ∧
    decodesTo [0xF9, 0x34, 0x12] (.sbcAbsY 0x1234) = true ∧
    decodesTo [0xFD, 0x34, 0x12] (.sbcAbsX 0x1234) = true := by decide +kernel

/-- 42_alu.md R244 to R246. -/
theorem test_decode_logic :
    decodesTo [0x21, 0x34] (.andIndX 0x34) = true ∧
    decodesTo [0x25, 0x34] (.andZp 0x34) = true ∧
    decodesTo [0x29, 0x34] (.andImm 0x34) = true ∧
    decodesTo [0x2D, 0x34, 0x12] (.andAbs 0x1234) = true ∧
    decodesTo [0x31, 0x34] (.andIndY 0x34) = true ∧
    decodesTo [0x35, 0x34] (.andZpX 0x34) = true ∧
    decodesTo [0x39, 0x34, 0x12] (.andAbsY 0x1234) = true ∧
    decodesTo [0x3D, 0x34, 0x12] (.andAbsX 0x1234) = true ∧
    decodesTo [0x01, 0x34] (.oraIndX 0x34) = true ∧
    decodesTo [0x05, 0x34] (.oraZp 0x34) = true ∧
    decodesTo [0x09, 0x34] (.oraImm 0x34) = true ∧
    decodesTo [0x0D, 0x34, 0x12] (.oraAbs 0x1234) = true ∧
    decodesTo [0x11, 0x34] (.oraIndY 0x34) = true ∧
    decodesTo [0x15, 0x34] (.oraZpX 0x34) = true ∧
    decodesTo [0x19, 0x34, 0x12] (.oraAbsY 0x1234) = true ∧
    decodesTo [0x1D, 0x34, 0x12] (.oraAbsX 0x1234) = true ∧
    decodesTo [0x41, 0x34] (.eorIndX 0x34) = true ∧
    decodesTo [0x45, 0x34] (.eorZp 0x34) = true ∧
    decodesTo [0x49, 0x34] (.eorImm 0x34) = true ∧
    decodesTo [0x4D, 0x34, 0x12] (.eorAbs 0x1234) = true ∧
    decodesTo [0x51, 0x34] (.eorIndY 0x34) = true ∧
    decodesTo [0x55, 0x34] (.eorZpX 0x34) = true ∧
    decodesTo [0x59, 0x34, 0x12] (.eorAbsY 0x1234) = true ∧
    decodesTo [0x5D, 0x34, 0x12] (.eorAbsX 0x1234) = true := by decide +kernel

/-- 42_alu.md R247 to R250. -/
theorem test_decode_compare_and_bit :
    decodesTo [0xC1, 0x34] (.cmpIndX 0x34) = true ∧
    decodesTo [0xC5, 0x34] (.cmpZp 0x34) = true ∧
    decodesTo [0xC9, 0x34] (.cmpImm 0x34) = true ∧
    decodesTo [0xCD, 0x34, 0x12] (.cmpAbs 0x1234) = true ∧
    decodesTo [0xD1, 0x34] (.cmpIndY 0x34) = true ∧
    decodesTo [0xD5, 0x34] (.cmpZpX 0x34) = true ∧
    decodesTo [0xD9, 0x34, 0x12] (.cmpAbsY 0x1234) = true ∧
    decodesTo [0xDD, 0x34, 0x12] (.cmpAbsX 0x1234) = true ∧
    decodesTo [0xE0, 0x34] (.cpxImm 0x34) = true ∧
    decodesTo [0xE4, 0x34] (.cpxZp 0x34) = true ∧
    decodesTo [0xEC, 0x34, 0x12] (.cpxAbs 0x1234) = true ∧
    decodesTo [0xC0, 0x34] (.cpyImm 0x34) = true ∧
    decodesTo [0xC4, 0x34] (.cpyZp 0x34) = true ∧
    decodesTo [0xCC, 0x34, 0x12] (.cpyAbs 0x1234) = true ∧
    decodesTo [0x24, 0x34] (.bitZp 0x34) = true ∧
    decodesTo [0x2C, 0x34, 0x12] (.bitAbs 0x1234) = true := by decide +kernel

/-- 43_shift_incdec.md R262 to R265. -/
theorem test_decode_shifts :
    decodesTo [0x06, 0x34] (.aslZp 0x34) = true ∧
    decodesTo [0x0A] .aslAcc = true ∧
    decodesTo [0x0E, 0x34, 0x12] (.aslAbs 0x1234) = true ∧
    decodesTo [0x16, 0x34] (.aslZpX 0x34) = true ∧
    decodesTo [0x1E, 0x34, 0x12] (.aslAbsX 0x1234) = true ∧
    decodesTo [0x46, 0x34] (.lsrZp 0x34) = true ∧
    decodesTo [0x4A] .lsrAcc = true ∧
    decodesTo [0x4E, 0x34, 0x12] (.lsrAbs 0x1234) = true ∧
    decodesTo [0x56, 0x34] (.lsrZpX 0x34) = true ∧
    decodesTo [0x5E, 0x34, 0x12] (.lsrAbsX 0x1234) = true ∧
    decodesTo [0x26, 0x34] (.rolZp 0x34) = true ∧
    decodesTo [0x2A] .rolAcc = true ∧
    decodesTo [0x2E, 0x34, 0x12] (.rolAbs 0x1234) = true ∧
    decodesTo [0x36, 0x34] (.rolZpX 0x34) = true ∧
    decodesTo [0x3E, 0x34, 0x12] (.rolAbsX 0x1234) = true ∧
    decodesTo [0x66, 0x34] (.rorZp 0x34) = true ∧
    decodesTo [0x6A] .rorAcc = true ∧
    decodesTo [0x6E, 0x34, 0x12] (.rorAbs 0x1234) = true ∧
    decodesTo [0x76, 0x34] (.rorZpX 0x34) = true ∧
    decodesTo [0x7E, 0x34, 0x12] (.rorAbsX 0x1234) = true := by decide +kernel

/-- 43_shift_incdec.md R266 to R271. -/
theorem test_decode_increments :
    decodesTo [0xE6, 0x34] (.incZp 0x34) = true ∧
    decodesTo [0xEE, 0x34, 0x12] (.incAbs 0x1234) = true ∧
    decodesTo [0xF6, 0x34] (.incZpX 0x34) = true ∧
    decodesTo [0xFE, 0x34, 0x12] (.incAbsX 0x1234) = true ∧
    decodesTo [0xC6, 0x34] (.decZp 0x34) = true ∧
    decodesTo [0xCE, 0x34, 0x12] (.decAbs 0x1234) = true ∧
    decodesTo [0xD6, 0x34] (.decZpX 0x34) = true ∧
    decodesTo [0xDE, 0x34, 0x12] (.decAbsX 0x1234) = true ∧
    decodesTo [0xE8] .inx = true ∧
    decodesTo [0xC8] .iny = true ∧
    decodesTo [0xCA] .dex = true ∧
    decodesTo [0x88] .dey = true := by decide +kernel

/-- 44_control_flow.md R282 to R284, R294, R295. -/
theorem test_decode_jumps_and_traps :
    decodesTo [0x4C, 0x34, 0x12] (.jmpAbs 0x1234) = true ∧
    decodesTo [0x6C, 0x34, 0x12] (.jmpInd 0x1234) = true ∧
    decodesTo [0x20, 0x34, 0x12] (.jsrAbs 0x1234) = true ∧
    decodesTo [0x60] .rts = true ∧
    decodesTo [0x00] .brk = true ∧
    decodesTo [0x40] .rti = true := by decide +kernel

/-- 44_control_flow.md R286 to R293. -/
theorem test_decode_branches :
    decodesTo [0x10, 0xF9] (.bpl (-7)) = true ∧
    decodesTo [0x30, 0xF9] (.bmi (-7)) = true ∧
    decodesTo [0x50, 0xF9] (.bvc (-7)) = true ∧
    decodesTo [0x70, 0xF9] (.bvs (-7)) = true ∧
    decodesTo [0x90, 0xF9] (.bcc (-7)) = true ∧
    decodesTo [0xB0, 0xF9] (.bcs (-7)) = true ∧
    decodesTo [0xD0, 0xF9] (.bne (-7)) = true ∧
    decodesTo [0xF0, 0xF9] (.beq (-7)) = true := by decide +kernel

/-- 45_flags_nop.md R311 to R318. -/
theorem test_decode_flags_and_nop :
    decodesTo [0x18] .clc = true ∧
    decodesTo [0x38] .sec = true ∧
    decodesTo [0x58] .cli = true ∧
    decodesTo [0x78] .sei = true ∧
    decodesTo [0xB8] .clv = true ∧
    decodesTo [0xD8] .cld = true ∧
    decodesTo [0xF8] .sed = true ∧
    decodesTo [0xEA] .nop = true := by decide +kernel

/-- A word numbered as the opcode table numbers it: LDA absolute, first byte lowest; and an illegal byte. -/
theorem test_decode_table_word :
    decodeTableWord 24 0x1234AD = some (.ldaAbs 0x1234) ∧ decodeTableWord 8 0x02 = none := by decide +kernel

/-- 30_encoding.md R178, R195, R196: the cycles column of the opcode table is the regular pattern of R196, and the rows marked `+p`
are the 23 that R195 lists. -/
theorem test_base_costs :
    opcodeTable.all (fun r => r.cycles == regularCost r.mnemonic r.mode &&
      r.pageCross == pageCrossOpcodes.contains r.opcode) = true ∧ pageCrossOpcodes.length = 23 := by decide +kernel

/-! One step of the machine on the vectors of 95_test_vectors.md, part 2: the registers, the flags and the cost after. -/

/-- The start state of the vectors: power-up with `PC = 0x8000` at a boundary, the code in PRG-ROM from 0x8000 on, and the given
bytes of internal RAM. -/
def start (code : List Byte) (ram : List (Nat × Byte)) : State :=
  { State.reset with
    cpu := { State.reset.cpu with pc := 0x8000, countdown := 0 },
    cfg := { State.reset.cfg with prgRom := Memory.ofBytes code },
    ram := ram.foldl (fun m c => m.write c.1 c.2) [] }

/-- The state after one step. -/
def after (s : State) : State :=
  match step s with
  | .next t => t
  | _ => s

/-- What the vectors list of the state after one step. -/
structure Seen where
  a : Byte
  x : Byte
  y : Byte
  sp : Byte
  pc : Addr
  p : Flags
  cycles : Nat
  ram : List Byte
  deriving DecidableEq, Repr

/-- The registers, the flags, the cost and some bytes of RAM after one step. -/
def seen (s : State) (cells : List Nat) : Seen :=
  let t := after s
  ⟨t.cpu.a, t.cpu.x, t.cpu.y, t.cpu.sp, t.cpu.pc, t.cpu.p, t.cpu.countdown + 1, cells.map t.ram.read⟩

/-- V4. -/
theorem test_v4_lda_absx :
    seen { start [0xBD, 0xFF, 0x12] [(0x300, 0x77)] with cpu.x := 0x01 } [] =
      ⟨0x77, 0x01, 0x00, 0xFD, 0x8003, ⟨false, false, true, false, false, false, false⟩, 5, []⟩ := by decide +kernel

/-- V6. -/
theorem test_v6_lda_indy :
    seen { start [0xB1, 0xFF] [(0x000, 0x02), (0x0FF, 0xFF), (0x300, 0x99)] with cpu.y := 0x01 } [] =
      ⟨0x99, 0x00, 0x01, 0xFD, 0x8002, ⟨false, false, true, false, false, false, true⟩, 6, []⟩ := by decide +kernel

/-- V8. -/
theorem test_v8_sta_absx :
    seen { start [0x9D, 0xFF, 0x02] [] with cpu.a := 0xAB, cpu.x := 0x01 } [0x300] =
      ⟨0xAB, 0x01, 0x00, 0xFD, 0x8003, ⟨false, false, true, false, false, false, false⟩, 5, [0xAB]⟩ := by decide +kernel

/-- V10. -/
theorem test_v10_sta_indy :
    seen { start [0x91, 0x20] [(0x020, 0x00), (0x021, 0x04)] with cpu.a := 0xCD, cpu.y := 0x10 } [0x410] =
      ⟨0xCD, 0x00, 0x10, 0xFD, 0x8002, ⟨false, false, true, false, false, false, false⟩, 6, [0xCD]⟩ := by decide +kernel

/-- V11. -/
theorem test_v11_ldx_zpy :
    seen { start [0xB6, 0xF0] [(0x010, 0x7F)] with cpu.y := 0x20 } [] =
      ⟨0x00, 0x7F, 0x20, 0xFD, 0x8002, ⟨false, false, true, false, false, false, false⟩, 4, []⟩ := by decide +kernel

/-- V12. -/
theorem test_v12_stx_zpy :
    seen { start [0x96, 0x10] [] with cpu.x := 0x33, cpu.y := 0x01 } [0x011] =
      ⟨0x00, 0x33, 0x01, 0xFD, 0x8002, ⟨false, false, true, false, false, false, false⟩, 4, [0x33]⟩ := by decide +kernel

/-- V13. -/
theorem test_v13_ldy_absx :
    seen { start [0xBC, 0x80, 0x03] [(0x400, 0x00)] with cpu.x := 0x80 } [] =
      ⟨0x00, 0x80, 0x00, 0xFD, 0x8003, ⟨false, true, true, false, false, false, false⟩, 5, []⟩ := by decide +kernel

/-- V15. -/
theorem test_v15_sty_abs :
    seen { start [0x8C, 0x34, 0x02] [] with cpu.y := 0x80 } [0x234] =
      ⟨0x00, 0x00, 0x80, 0xFD, 0x8003, ⟨false, false, true, false, false, false, false⟩, 4, [0x80]⟩ := by decide +kernel

/-- V20. -/
theorem test_v20_tax :
    seen { start [0xAA] [] with cpu.x := 0x55 } [] =
      ⟨0x00, 0x00, 0x00, 0xFD, 0x8001, ⟨false, true, true, false, false, false, false⟩, 2, []⟩ := by decide +kernel

/-- V21. -/
theorem test_v21_txs :
    seen (start [0x9A] []) [] =
      ⟨0x00, 0x00, 0x00, 0x00, 0x8001, ⟨false, false, true, false, false, false, false⟩, 2, []⟩ := by decide +kernel

/-- V22. -/
theorem test_v22_tsx :
    seen { start [0xBA] [] with cpu.sp := 0x80 } [] =
      ⟨0x00, 0x80, 0x00, 0x80, 0x8001, ⟨false, false, true, false, false, false, true⟩, 2, []⟩ := by decide +kernel

/-- V23. -/
theorem test_v23_txa :
    seen { start [0x8A] [] with cpu.x := 0xFF } [] =
      ⟨0xFF, 0xFF, 0x00, 0xFD, 0x8001, ⟨false, false, true, false, false, false, true⟩, 2, []⟩ := by decide +kernel

/-- V24. -/
theorem test_v24_tay :
    seen { start [0xA8] [] with cpu.a := 0x7F } [] =
      ⟨0x7F, 0x00, 0x7F, 0xFD, 0x8001, ⟨false, false, true, false, false, false, false⟩, 2, []⟩ := by decide +kernel

/-- V25. -/
theorem test_v25_tya :
    seen { start [0x98] [] with cpu.a := 0x12 } [] =
      ⟨0x00, 0x00, 0x00, 0xFD, 0x8001, ⟨false, true, true, false, false, false, false⟩, 2, []⟩ := by decide +kernel

/-- V26. -/
theorem test_v26_pha :
    seen { start [0x48] [] with cpu.a := 0x77, cpu.sp := 0x00 } [0x100] =
      ⟨0x77, 0x00, 0x00, 0xFF, 0x8001, ⟨false, false, true, false, false, false, false⟩, 3, [0x77]⟩ := by decide +kernel

/-- V27. -/
theorem test_v27_pla :
    seen { start [0x68] [(0x100, 0x80)] with cpu.sp := 0xFF } [] =
      ⟨0x80, 0x00, 0x00, 0x00, 0x8001, ⟨false, false, true, false, false, false, true⟩, 4, []⟩ := by decide +kernel

/-- V28. -/
theorem test_v28_php :
    seen { start [0x08] [] with cpu.p := ⟨true, false, true, false, false, false, true⟩ } [0x1FD] =
      ⟨0x00, 0x00, 0x00, 0xFC, 0x8001, ⟨true, false, true, false, false, false, true⟩, 3, [0xB5]⟩ := by decide +kernel

/-- V29. -/
theorem test_v29_php :
    seen (start [0x08] []) [0x1FD] =
      ⟨0x00, 0x00, 0x00, 0xFC, 0x8001, ⟨false, false, true, false, false, false, false⟩, 3, [0x34]⟩ := by decide +kernel

/-- V30. -/
theorem test_v30_plp :
    seen { start [0x28] [(0x1FD, 0xFF)] with cpu.sp := 0xFC } [] =
      ⟨0x00, 0x00, 0x00, 0xFD, 0x8001, ⟨true, true, true, true, false, true, true⟩, 4, []⟩ := by decide +kernel

/-- V31. -/
theorem test_v31_plp :
    seen { start [0x28] [(0x1FD, 0x00)] with cpu.sp := 0xFC, cpu.p := ⟨true, false, true, false, true, false, false⟩ } [] =
      ⟨0x00, 0x00, 0x00, 0xFD, 0x8001, ⟨false, false, false, false, true, false, false⟩, 4, []⟩ := by decide +kernel

/-- V40. -/
theorem test_v40_adc_imm :
    seen { start [0x69, 0x50] [] with cpu.a := 0x50 } [] =
      ⟨0xA0, 0x00, 0x00, 0xFD, 0x8002, ⟨false, false, true, false, false, true, true⟩, 2, []⟩ := by decide +kernel

/-- V42. -/
theorem test_v42_adc_imm :
    seen { start [0x69, 0x00] [] with cpu.a := 0x7F, cpu.p := ⟨true, false, true, false, false, false, false⟩ } [] =
      ⟨0x80, 0x00, 0x00, 0xFD, 0x8002, ⟨false, false, true, false, false, true, true⟩, 2, []⟩ := by decide +kernel

/-- V44. -/
theorem test_v44_sbc_imm :
    seen { start [0xE9, 0xF0] [] with cpu.a := 0x50, cpu.p := ⟨true, false, true, false, false, false, false⟩ } [] =
      ⟨0x60, 0x00, 0x00, 0xFD, 0x8002, ⟨false, false, true, false, false, false, false⟩, 2, []⟩ := by decide +kernel

/-- V46. -/
theorem test_v46_sbc_imm :
    seen (start [0xE9, 0x00] []) [] =
      ⟨0xFF, 0x00, 0x00, 0xFD, 0x8002, ⟨false, false, true, false, false, false, true⟩, 2, []⟩ := by decide +kernel

/-- V48. -/
theorem test_v48_and_imm :
    seen { start [0x29, 0x0F] [] with cpu.a := 0xF0 } [] =
      ⟨0x00, 0x00, 0x00, 0xFD, 0x8002, ⟨false, true, true, false, false, false, false⟩, 2, []⟩ := by decide +kernel

/-- V49. -/
theorem test_v49_ora_imm :
    seen { start [0x09, 0x80] [] with cpu.a := 0x01 } [] =
      ⟨0x81, 0x00, 0x00, 0xFD, 0x8002, ⟨false, false, true, false, false, false, true⟩, 2, []⟩ := by decide +kernel

/-- V50. -/
theorem test_v50_eor_imm :
    seen { start [0x49, 0xFF] [] with cpu.a := 0xFF } [] =
      ⟨0x00, 0x00, 0x00, 0xFD, 0x8002, ⟨false, true, true, false, false, false, false⟩, 2, []⟩ := by decide +kernel

/-- V52. -/
theorem test_v52_cmp_imm :
    seen { start [0xC9, 0x41] [] with cpu.a := 0x40 } [] =
      ⟨0x40, 0x00, 0x00, 0xFD, 0x8002, ⟨false, false, true, false, false, false, true⟩, 2, []⟩ := by decide +kernel

/-- V53. -/
theorem test_v53_cmp_imm :
    seen { start [0xC9, 0x00] [] with cpu.a := 0x80 } [] =
      ⟨0x80, 0x00, 0x00, 0xFD, 0x8002, ⟨true, false, true, false, false, false, true⟩, 2, []⟩ := by decide +kernel

/-- V54. -/
theorem test_v54_cpx_imm :
    seen { start [0xE0, 0x10] [] with cpu.x := 0x20 } [] =
      ⟨0x00, 0x20, 0x00, 0xFD, 0x8002, ⟨true, false, true, false, false, false, false⟩, 2, []⟩ := by decide +kernel

/-- V55. -/
theorem test_v55_cpy_imm :
    seen (start [0xC0, 0xFF] []) [] =
      ⟨0x00, 0x00, 0x00, 0xFD, 0x8002, ⟨false, false, true, false, false, false, false⟩, 2, []⟩ := by decide +kernel

/-- V56. -/
theorem test_v56_bit_zp :
    seen { start [0x24, 0x10] [(0x010, 0xC0)] with cpu.a := 0x01 } [] =
      ⟨0x01, 0x00, 0x00, 0xFD, 0x8002, ⟨false, true, true, false, false, true, true⟩, 3, []⟩ := by decide +kernel

/-- V57. -/
theorem test_v57_bit_abs :
    seen { start [0x2C, 0x00, 0x03] [(0x300, 0x3F)] with cpu.a := 0xFF, cpu.p := ⟨false, false, true, false, false, true, true⟩ } [] =
      ⟨0xFF, 0x00, 0x00, 0xFD, 0x8003, ⟨false, false, true, false, false, false, false⟩, 4, []⟩ := by decide +kernel

/-- V60. -/
theorem test_v60_asl_acc :
    seen { start [0x0A] [] with cpu.a := 0x80 } [] =
      ⟨0x00, 0x00, 0x00, 0xFD, 0x8001, ⟨true, true, true, false, false, false, false⟩, 2, []⟩ := by decide +kernel

/-- V64. -/
theorem test_v64_asl_zp :
    seen { start [0x06, 0x10] [(0x010, 0x41)] with cpu.a := 0x55 } [0x010] =
      ⟨0x55, 0x00, 0x00, 0xFD, 0x8002, ⟨false, false, true, false, false, false, true⟩, 5, [0x82]⟩ := by decide +kernel

/-- V61. -/
theorem test_v61_lsr_acc :
    seen { start [0x4A] [] with cpu.a := 0x01 } [] =
      ⟨0x00, 0x00, 0x00, 0xFD, 0x8001, ⟨true, true, true, false, false, false, false⟩, 2, []⟩ := by decide +kernel

/-- V65. -/
theorem test_v65_lsr_absx :
    seen { start [0x5E, 0xFF, 0x02] [(0x300, 0x02)] with cpu.x := 0x01 } [0x300] =
      ⟨0x00, 0x01, 0x00, 0xFD, 0x8003, ⟨false, false, true, false, false, false, false⟩, 7, [0x01]⟩ := by decide +kernel

/-- V62. -/
theorem test_v62_rol_acc :
    seen { start [0x2A] [] with cpu.a := 0x80, cpu.p := ⟨true, false, true, false, false, false, false⟩ } [] =
      ⟨0x01, 0x00, 0x00, 0xFD, 0x8001, ⟨true, false, true, false, false, false, false⟩, 2, []⟩ := by decide +kernel

/-- V66. -/
theorem test_v66_rol_absx :
    seen { start [0x3E, 0x00, 0x02] [(0x201, 0xFF)] with cpu.x := 0x01 } [0x201] =
      ⟨0x00, 0x01, 0x00, 0xFD, 0x8003, ⟨true, false, true, false, false, false, true⟩, 7, [0xFE]⟩ := by decide +kernel

/-- V63. -/
theorem test_v63_ror_acc :
    seen { start [0x6A] [] with cpu.a := 0x01, cpu.p := ⟨true, false, true, false, false, false, false⟩ } [] =
      ⟨0x80, 0x00, 0x00, 0xFD, 0x8001, ⟨true, false, true, false, false, false, true⟩, 2, []⟩ := by decide +kernel

/-- V67. -/
theorem test_v67_ror_zp :
    seen (start [0x66, 0x10] [(0x010, 0x01)]) [0x010] =
      ⟨0x00, 0x00, 0x00, 0xFD, 0x8002, ⟨true, true, true, false, false, false, false⟩, 5, [0x00]⟩ := by decide +kernel

/-- V68. -/
theorem test_v68_inc_zp :
    seen (start [0xE6, 0x10] [(0x010, 0xFF)]) [0x010] =
      ⟨0x00, 0x00, 0x00, 0xFD, 0x8002, ⟨false, true, true, false, false, false, false⟩, 5, [0x00]⟩ := by decide +kernel

/-- V70. -/
theorem test_v70_inc_absx :
    seen { start [0xFE, 0xFF, 0x02] [(0x300, 0x7F)] with cpu.x := 0x01 } [0x300] =
      ⟨0x00, 0x01, 0x00, 0xFD, 0x8003, ⟨false, false, true, false, false, false, true⟩, 7, [0x80]⟩ := by decide +kernel

/-- V69. -/
theorem test_v69_dec_zp :
    seen (start [0xC6, 0x10] [(0x010, 0x00)]) [0x010] =
      ⟨0x00, 0x00, 0x00, 0xFD, 0x8002, ⟨false, false, true, false, false, false, true⟩, 5, [0xFF]⟩ := by decide +kernel

/-- V71. -/
theorem test_v71_inx :
    seen { start [0xE8] [] with cpu.x := 0xFF } [] =
      ⟨0x00, 0x00, 0x00, 0xFD, 0x8001, ⟨false, true, true, false, false, false, false⟩, 2, []⟩ := by decide +kernel

/-- V72. -/
theorem test_v72_dey :
    seen (start [0x88] []) [] =
      ⟨0x00, 0x00, 0xFF, 0xFD, 0x8001, ⟨false, false, true, false, false, false, true⟩, 2, []⟩ := by decide +kernel

/-- V73. -/
theorem test_v73_iny :
    seen { start [0xC8] [] with cpu.y := 0x7F } [] =
      ⟨0x00, 0x00, 0x80, 0xFD, 0x8001, ⟨false, false, true, false, false, false, true⟩, 2, []⟩ := by decide +kernel

/-- V74. -/
theorem test_v74_dex :
    seen { start [0xCA] [] with cpu.x := 0x01 } [] =
      ⟨0x00, 0x00, 0x00, 0xFD, 0x8001, ⟨false, true, true, false, false, false, false⟩, 2, []⟩ := by decide +kernel

/-- V80. -/
theorem test_v80_jmp_abs :
    seen (start [0x4C, 0x34, 0x92] []) [] =
      ⟨0x00, 0x00, 0x00, 0xFD, 0x9234, ⟨false, false, true, false, false, false, false⟩, 3, []⟩ := by decide +kernel

/-- V81. -/
theorem test_v81_jmp_ind :
    seen (start [0x6C, 0xFF, 0x02] [(0x200, 0x90), (0x2FF, 0x00), (0x300, 0xA0)]) [] =
      ⟨0x00, 0x00, 0x00, 0xFD, 0x9000, ⟨false, false, true, false, false, false, false⟩, 5, []⟩ := by decide +kernel

/-- V83. -/
theorem test_v83_jsr_abs :
    seen (start [0x20, 0x00, 0x90] []) [0x1FC, 0x1FD] =
      ⟨0x00, 0x00, 0x00, 0xFB, 0x9000, ⟨false, false, true, false, false, false, false⟩, 6, [0x02, 0x80]⟩ := by decide +kernel

/-- V84. -/
theorem test_v84_rts :
    seen { start [0x60] [(0x1FC, 0x02), (0x1FD, 0x80)] with cpu.sp := 0xFB } [] =
      ⟨0x00, 0x00, 0x00, 0xFD, 0x8003, ⟨false, false, true, false, false, false, false⟩, 6, []⟩ := by decide +kernel

/-- V85. -/
theorem test_v85_bne :
    seen (start [0xD0, 0x10] []) [] =
      ⟨0x00, 0x00, 0x00, 0xFD, 0x8012, ⟨false, false, true, false, false, false, false⟩, 3, []⟩ := by decide +kernel

/-- V86. -/
theorem test_v86_bne :
    seen { start [0xD0, 0x10] [] with cpu.p := ⟨false, true, true, false, false, false, false⟩ } [] =
      ⟨0x00, 0x00, 0x00, 0xFD, 0x8002, ⟨false, true, true, false, false, false, false⟩, 2, []⟩ := by decide +kernel

/-- V88. -/
theorem test_v88_bpl :
    seen (start [0x10, 0xFC] []) [] =
      ⟨0x00, 0x00, 0x00, 0xFD, 0x7FFE, ⟨false, false, true, false, false, false, false⟩, 4, []⟩ := by decide +kernel

/-- V89. -/
theorem test_v89_bcc :
    seen (start [0x90, 0xFE] []) [] =
      ⟨0x00, 0x00, 0x00, 0xFD, 0x8000, ⟨false, false, true, false, false, false, false⟩, 3, []⟩ := by decide +kernel

/-- V90. -/
theorem test_v90_bmi :
    seen { start [0x30, 0x05] [] with cpu.p := ⟨false, false, true, false, false, false, true⟩ } [] =
      ⟨0x00, 0x00, 0x00, 0xFD, 0x8007, ⟨false, false, true, false, false, false, true⟩, 3, []⟩ := by decide +kernel

/-- V91. -/
theorem test_v91_bvc :
    seen { start [0x50, 0x05] [] with cpu.p := ⟨false, false, true, false, false, true, false⟩ } [] =
      ⟨0x00, 0x00, 0x00, 0xFD, 0x8002, ⟨false, false, true, false, false, true, false⟩, 2, []⟩ := by decide +kernel

/-- V92. -/
theorem test_v92_bvs :
    seen { start [0x70, 0x05] [] with cpu.p := ⟨false, false, true, false, false, true, false⟩ } [] =
      ⟨0x00, 0x00, 0x00, 0xFD, 0x8007, ⟨false, false, true, false, false, true, false⟩, 3, []⟩ := by decide +kernel

/-- V93. -/
theorem test_v93_bcs :
    seen (start [0xB0, 0x05] []) [] =
      ⟨0x00, 0x00, 0x00, 0xFD, 0x8002, ⟨false, false, true, false, false, false, false⟩, 2, []⟩ := by decide +kernel

/-- V95. -/
theorem test_v95_brk :
    seen { start [0x00] [] with cfg.prgRom := Memory.write (Memory.write (Memory.ofBytes [0x00]) 0x3FFE 0x00) 0x3FFF 0x90 } [0x1FB, 0x1FC, 0x1FD] =
      ⟨0x00, 0x00, 0x00, 0xFA, 0x9000, ⟨false, false, true, false, true, false, false⟩, 7, [0x34, 0x02, 0x80]⟩ := by decide +kernel

/-- V96. -/
theorem test_v96_rti :
    seen { start [0x40] [(0x1FB, 0xC3), (0x1FC, 0x02), (0x1FD, 0x80)] with cpu.sp := 0xFA } [] =
      ⟨0x00, 0x00, 0x00, 0xFD, 0x8002, ⟨true, true, false, false, false, true, true⟩, 6, []⟩ := by decide +kernel

/-- V100. -/
theorem test_v100_clc :
    seen { start [0x18] [] with cpu.p := ⟨true, false, true, false, false, false, false⟩ } [] =
      ⟨0x00, 0x00, 0x00, 0xFD, 0x8001, ⟨false, false, true, false, false, false, false⟩, 2, []⟩ := by decide +kernel

/-- V101. -/
theorem test_v101_sec :
    seen (start [0x38] []) [] =
      ⟨0x00, 0x00, 0x00, 0xFD, 0x8001, ⟨true, false, true, false, false, false, false⟩, 2, []⟩ := by decide +kernel

/-- V102. -/
theorem test_v102_cli :
    seen (start [0x58] []) [] =
      ⟨0x00, 0x00, 0x00, 0xFD, 0x8001, ⟨false, false, false, false, false, false, false⟩, 2, []⟩ := by decide +kernel

/-- V103. -/
theorem test_v103_sei :
    seen { start [0x78] [] with cpu.p := ⟨false, false, false, false, false, false, false⟩ } [] =
      ⟨0x00, 0x00, 0x00, 0xFD, 0x8001, ⟨false, false, true, false, false, false, false⟩, 2, []⟩ := by decide +kernel

/-- V104. -/
theorem test_v104_clv :
    seen { start [0xB8] [] with cpu.p := ⟨false, false, true, false, false, true, false⟩ } [] =
      ⟨0x00, 0x00, 0x00, 0xFD, 0x8001, ⟨false, false, true, false, false, false, false⟩, 2, []⟩ := by decide +kernel

/-- V105. -/
theorem test_v105_cld :
    seen { start [0xD8] [] with cpu.p := ⟨false, false, true, true, false, false, false⟩ } [] =
      ⟨0x00, 0x00, 0x00, 0xFD, 0x8001, ⟨false, false, true, false, false, false, false⟩, 2, []⟩ := by decide +kernel

/-- V106. -/
theorem test_v106_sed :
    seen (start [0xF8] []) [] =
      ⟨0x00, 0x00, 0x00, 0xFD, 0x8001, ⟨false, false, true, true, false, false, false⟩, 2, []⟩ := by decide +kernel

/-- V107. -/
theorem test_v107_nop :
    seen (start [0xEA] []) [] =
      ⟨0x00, 0x00, 0x00, 0xFD, 0x8001, ⟨false, false, true, false, false, false, false⟩, 2, []⟩ := by decide +kernel
/-- V94, BEQ at 0x80FE: the crossing is measured from `PC + 2`. -/
theorem test_v94_beq :
    seen { start [] [] with
        cfg.prgRom := (Memory.write [] 0xFE 0xF0).write 0xFF 0xFD, cpu.pc := 0x80FE,
        cpu.p := ⟨false, true, true, false, false, false, false⟩ } [] =
      ⟨0x00, 0x00, 0x00, 0xFD, 0x80FD, ⟨false, true, true, false, false, false, false⟩, 4, []⟩ := by decide +kernel

/-- V108: an illegal byte faults the machine, and the tick after reports the record (55_system_tick.md R459, R472). -/
theorem test_v108_illegal :
    (after (start [0x02] [])).cpu.fault = some ⟨0x02, 0x8000⟩ ∧ (after (start [0x02] [])).sys.phase = .faulted ∧
      (after (start [0x02] [])).cpu.pc = 0x8000 ∧
      (match step (after (start [0x02] [])) with | .fault (.halted r) => decide (r = some ⟨0x02, 0x8000⟩) | _ => false) = true := by
  decide +kernel

/-- R524 of 70_reset_and_hazards.md, S1: what `power_up` leaves on the image of R530. -/
theorem test_s1_reset :
    State.reset.cpu.pc = 0xC000 ∧ State.reset.cpu.sp = 0xFD ∧ State.reset.cpu.p.i = true ∧ State.reset.cpu.countdown = 7 ∧
      State.reset.sys.master = 0 ∧ State.reset.sys.phase = .running := by decide

/-- Every memory of the reset state is in canonical form. -/
theorem test_reset_memories_wf :
    [State.reset.ram, State.reset.prgRam, State.reset.chrRam, State.reset.cfg.prgRom, State.reset.cfg.chrRom,
      State.reset.cfg.ntscPalette, State.reset.ppu.nt, State.reset.ppu.palette, State.reset.ppu.oam, State.reset.ppu.secOam,
      State.reset.ppu.lineSpr, State.reset.ppu.fb, State.reset.ppu.doneFb].all Memory.wf = true := by decide

/-- The word of a table row is fetched and run by the very next step, from reset. -/
theorem test_with_fetch_word :
    (after (State.reset.withFetchWord 16 0x80A9)).cpu.a = 0x80 ∧ (after (State.reset.withFetchWord 16 0x80A9)).cpu.p.n = true ∧
      (after (State.reset.withFetchWord 16 0x80A9)).cpu.pc = 0xC002 := by decide +kernel

/-! The devices on the vectors of 95_test_vectors.md, parts 1 and 3. -/

/-- The bus writes of a list, in order. -/
def writes (l : List (Addr × Byte)) (s : State) : State := l.foldl (fun s w => cpuWrite w.1 w.2 s) s

/-- The state on another mapper, with `prg` 16 KiB units of PRG-ROM and `chr` 8 KiB units of CHR-ROM. -/
def onMapper (m : MapperKind) (prg chr : Nat) (s : State) : State :=
  { s with
    cfg := { s.cfg with header := { s.cfg.header with mapper := m, prgUnits := prg, chrUnits := chr } },
    mapper := Mapper.powerUp { s.cfg.header with mapper := m } }

/-- V203: CHR-RAM through PPUADDR and PPUDATA, with the delayed read. -/
theorem test_v203_chr_ram :
    let s := writes [(0x2006, 0x00), (0x2006, 0x10), (0x2007, 0x77), (0x2006, 0x00), (0x2006, 0x10)]
      (onMapper .nrom 1 0 State.reset)
    s.chrRam.read 0x10 = 0x77 ∧ (cpuRead 0x2007 (cpuRead 0x2007 s).2).1 = 0x77 ∧
      (cpuRead 0x2007 (cpuRead 0x2007 s).2).2.ppu.v = 0x12 := by decide +kernel

/-- V208 to V212: nametable and palette indices. -/
theorem test_v208_v212_indices :
    [0x2000#14, 0x2400, 0x2800, 0x2C00, 0x23FF, 0x3000, 0x3EFF].map (ntIndex .horizontal) =
      [0, 0, 0x400, 0x400, 0x3FF, 0, 0x6FF] ∧
    [0x2000#14, 0x2400, 0x2800, 0x2C00].map (ntIndex .vertical) = [0, 0x400, 0, 0x400] ∧
    ntIndex .oneScreenHigh 0x2C05 = 0x405 ∧ ntIndex .fourScreen 0x2C05 = 0xC05 ∧
    [0x3F10#14, 0x3F14, 0x3F11, 0x3F20, 0x3FFF].map palIndex = [0x00, 0x04, 0x11, 0x00, 0x1F] := by decide +kernel

/-- V213: the controller after a strobe pulse. -/
theorem test_v213_controller :
    let s := writes [(0x4016, 0x01), (0x4016, 0x00)] { State.reset with sys.ctrlButtons := 0x91 }
    (cpuRead 0x4016 s).2.sys.ctrlShift = 0xC8 ∧ (cpuRead 0x4016 (cpuRead 0x4016 s).2).2.sys.ctrlShift = 0xE4 := by decide +kernel

/-- S2: five serial writes give control 0x0D and one-screen-high mirroring (90_conflicts.md C3). -/
theorem test_s2_mmc1 :
    let s := writes [(0x9FFF, 1), (0x9FFF, 0), (0x9FFF, 1), (0x9FFF, 1), (0x9FFF, 0)] (onMapper .mmc1 8 0 State.reset)
    s.mapper.mmc1Control = 0x0D ∧ s.mapper.mmc1Count = 0 ∧ s.mirroring = .oneScreenHigh := by decide +kernel

/-- V219, V226, V228: the first byte of the bank at 0x8000 and of the last bank, by mapper. -/
theorem test_v219_v226_v228_banks :
    prgOffset (onMapper .mmc1 8 0 State.reset).cfg { Mapper.powerUp State.reset.cfg.header with mmc1Prg := 3 } 0x8000 = 0xC000 ∧
    prgOffset (onMapper .mmc1 8 0 State.reset).cfg { Mapper.powerUp State.reset.cfg.header with mmc1Prg := 3 } 0xC000 = 0x1C000 ∧
    prgOffset (onMapper .uxrom 8 0 State.reset).cfg (writes [(0x8000, 0x85)] (onMapper .uxrom 8 0 State.reset)).mapper 0x8000 =
      0x14000 ∧
    prgOffset (onMapper .axrom 8 0 State.reset).cfg (writes [(0x8000, 0x13)] (onMapper .axrom 8 0 State.reset)).mapper 0x8000 =
      0x18000 := by decide +kernel

/-- S4: the DMA copies the page and leaves the stall pending; OAMADDR keeps its value. -/
theorem test_s4_oam_dma :
    let s := writes [(0x2003, 0x10), (0x4014, 0x02)] (start [] [(0x200, 0xAA), (0x2FF, 0xBB)])
    s.ppu.oam.read 0x10 = 0xAA ∧ s.ppu.oam.read 0x0F = 0xBB ∧ s.ppu.oamAddr = 0x10 ∧ s.cpu.dmaPending = true := by decide +kernel

/-- The last line of the table of 51_apu.md R422: a pulse sum of 30 gives 65, and the sum 0 gives 0. -/
theorem test_mix_bounds : mixSample 30 = 65 ∧ mixSample 0 = 0 := by decide

/-- V333 and V334: `SpritePatternAddr`; and by the formula of R376 an 8x8 row past 7, ored in. -/
theorem test_v333_v334_sprite_address :
    spritePatternAddr { State.reset.ppu with ctrl := 0x08 } 0x03 5 = 0x1035 ∧
    spritePatternAddr { State.reset.ppu with ctrl := 0x20 } 0x03 10 = 0x1032 ∧
    spritePatternAddr { State.reset.ppu with ctrl := 0x20 } 0x02 3 = 0x0023 ∧
    spritePatternAddr { State.reset.ppu with ctrl := 0x08 } 0x03 10 = 0x103A := by decide

/-- The header of an image: one PRG unit, no CHR, the given flag bytes 6 and 7. -/
def imageHeader (b6 b7 : Byte) : List Byte := [0x4E, 0x45, 0x53, 0x1A, 1, 0, b6, b7, 0, 0, 0, 0, 0, 0, 0, 0]

/-- Every outcome of a load is reported (21_mappers.md R125, 55_system_tick.md R474): an NES 2.0 image on mapper 4 under the policy
accept reports both; an image shorter than its header claims is refused once. -/
theorem test_load_reports :
    (loadGame (some (imageHeader 0x40 0x08 ++ List.replicate 16384 0)) (some (List.replicate 192 0)) State.created).2 =
      [.unsupportedFormat, .unsupportedMapper (some 4)] ∧
    (loadGame (some (imageHeader 0x00 0x08 ++ List.replicate 16384 0)) (some (List.replicate 192 0)) State.created).2 =
      [.unsupportedFormat] ∧
    (loadGame (some (imageHeader 0x40 0x08)) (some (List.replicate 192 0)) State.created).2 = [.unsupportedFormat] ∧
    (loadGame none (some []) State.created).2 = [.ioError] := by decide +kernel

/-! Witnesses: for every statement of Certificates/Slice0/Obligations.lean that has hypotheses, states and operands that meet them. -/

/-- The start state with the PPU moved to a position, PPUCTRL and PPUMASK set. -/
def ppuAt (line dot : Nat) (ctrl mask : Byte) : State :=
  { State.reset with ppu.scanline := line, ppu.dot := dot, ppu.ctrl := ctrl, ppu.mask := mask }

/-- The answer is a next state with a property. -/
def answers (r : Result) (f : State → Bool) : Bool :=
  match r with
  | .next t => f t
  | _ => false

theorem witness_DecodeOfEncode :
    Instr.wellFormed (.beq (-128)) = true ∧ Instr.wellFormed (.beq 127) = true ∧ Instr.wellFormed (.jsrAbs 0xFFFF) = true ∧
      Instr.wellFormed .nop = true := by decide

theorem witness_EncodeOfDecode :
    decode [0x90, 0x80, 0x11] = .ok (.bcc (-128), [0x11]) ∧ decode [0x4C, 0xFF, 0xFF] = .ok (.jmpAbs 0xFFFF, []) := ⟨rfl, rfl⟩

theorem witness_IllegalBytesRejected : (0x02#8 ∈ illegalBytes) ∧ (0xFF#8 ∈ illegalBytes) ∧ (0xEA#8 ∉ illegalBytes) := by decide

theorem witness_OpcodeGrid : decode [0x6C, 0x34, 0x12] = .ok (.jmpInd 0x1234, []) ∧ opcodeGrid 0xFF = none := ⟨rfl, rfl⟩

theorem witness_AddressModes :
    ((Instr.operand (.stxZpY 0)).mode = .zpy ∧ (Instr.operand (.beq 0)).mode = .rel ∧ (Instr.operand (.jmpInd 0)).mode = .ind) ∧
    (Instr.operand .brk = .imp ∧ ∃ t, exec .brk (start [] []) = .next t) ∧
    (Instr.operand .nop = .imp ∧ ∃ t, exec .nop (start [] []) = .next t) := by
  exact ⟨by decide, ⟨rfl, _, rfl⟩, ⟨rfl, _, rfl⟩⟩

theorem witness_ModeLengths :
    decode [0xEA] = .ok (.nop, []) ∧ decode [0xA9, 0x00] = .ok (.ldaImm 0x00, []) ∧
      decode [0xAD, 0x34, 0x12, 0x99] = .ok (.ldaAbs 0x1234, [0x99]) := ⟨rfl, rfl, rfl⟩

theorem witness_OperandAssembly :
    decode [0x0A, 1, 2, 3] = .ok (.aslAcc, [1, 2, 3]) ∧ decode [0xEA, 1, 2, 3] = .ok (.nop, [1, 2, 3]) ∧
    decode [0xA9, 0xFF, 2, 3] = .ok (.ldaImm 0xFF, [2, 3]) ∧ decode [0x6C, 0xFF, 0x02, 3] = .ok (.jmpInd 0x02FF, [3]) ∧
    decode [0xD0, 0x7F, 2, 3] = .ok (.bne 127, [2, 3]) ∧ decode [0xD0, 0x80, 2, 3] = .ok (.bne (-128), [2, 3]) :=
  ⟨rfl, rfl, rfl, rfl, rfl, rfl⟩

theorem witness_RegisterFrame :
    (∃ t, exec (.incZp 0x10) (start [] []) = .next t) ∧ Instr.operand (.incZp 0x10) ≠ .acc ∧
    Instr.mnemonic (.incZp 0x10) ∉ [Mnemonic.lda, .txa, .tya, .pla, .adc, .sbc, .and, .ora, .eor] ∧
    Instr.mnemonic (.incZp 0x10) ∉ [Mnemonic.ldx, .tax, .tsx, .inx, .dex] ∧
    Instr.mnemonic (.incZp 0x10) ∉ [Mnemonic.ldy, .tay, .iny, .dey] ∧
    Instr.mnemonic (.incZp 0x10) ∉ [Mnemonic.txs, .pha, .php, .pla, .plp, .jsr, .rts, .brk, .rti] :=
  ⟨⟨_, rfl⟩, by decide, by decide, by decide, by decide, by decide⟩

theorem witness_FlagFrame :
    (∃ t, exec (.staZp 0x10) (start [] []) = .next t) ∧
    Instr.mnemonic (.staZp 0x10) ∉ [Mnemonic.adc, .sbc, .cmp, .cpx, .cpy, .asl, .lsr, .rol, .ror, .clc, .sec, .plp, .rti] ∧
    Instr.mnemonic (.staZp 0x10) ∉ [Mnemonic.lda, .ldx, .ldy, .tax, .tay, .txa, .tya, .tsx, .pla, .adc, .sbc, .and, .ora, .eor,
      .cmp, .cpx, .cpy, .bit, .asl, .lsr, .rol, .ror, .inc, .dec, .inx, .iny, .dex, .dey, .plp, .rti] ∧
    Instr.mnemonic (.staZp 0x10) ∉ [Mnemonic.cli, .sei, .plp, .rti, .brk] ∧
    Instr.mnemonic (.staZp 0x10) ∉ [Mnemonic.cld, .sed, .plp, .rti] ∧
    Instr.mnemonic (.staZp 0x10) ∉ [Mnemonic.adc, .sbc, .bit, .clv, .plp, .rti] ∧ Instr.mnemonic (.staZp 0x10) ≠ .brk :=
  ⟨⟨_, rfl⟩, by decide, by decide, by decide, by decide, by decide, by decide⟩

theorem witness_DeviceFrame :
    (∃ t, exec (.staAbs 0x2007) (start [] []) = .next t) ∧
    (∃ t, exec (.ldaAbs 0x2002) (start [] []) = .next t) ∧ storesSomewhere (Instr.mnemonic (.ldaAbs 0x2002)) = false ∧
    (∃ t, exec .aslAcc (start [] []) = .next t) ∧ Instr.operand .aslAcc = .acc ∧
    (∃ t, exec .inx (start [] []) = .next t) ∧ makesNoDataAccess .inx = true := by
  refine ⟨⟨_, rfl⟩, ⟨_, rfl⟩, by decide, ⟨_, rfl⟩, by decide, ⟨_, rfl⟩, by decide⟩

/-- A cell the instruction stores to and one it leaves alone, for a store at the end of RAM, a read-modify-write, a push at the stack's
wrap, a DMA and a nametable write. -/
theorem witness_StoreFrame :
    (∃ t, exec (.staAbs 0x1FFF) (start [] []) = .next t) ∧
    storedCell (.staAbs 0x1FFF) (start [] []) .ram 0x7FF = true ∧ storedCell (.staAbs 0x1FFF) (start [] []) .ram 0x7FE = false ∧
    storedCell (.incZp 0xFF) (start [] []) .ram 0xFF = true ∧ storedCell (.incZp 0xFF) (start [] []) .ram 0x00 = false ∧
    storedCell (.jsrAbs 0x9000) { start [] [] with cpu.sp := 0x00 } .ram 0x1FF = true ∧
    storedCell (.jsrAbs 0x9000) { start [] [] with cpu.sp := 0x00 } .ram 0x1FE = false ∧
    storedCell (.staAbs 0x4014) (start [] []) .oam 0xFF = true ∧ storedCell (.staAbs 0x4014) (start [] []) .ram 0 = false ∧
    storedCell (.staAbs 0x2007) { start [] [] with ppu.v := 0x2C05 } .nametable 0x405 = true ∧
    storedCell (.staAbs 0x2007) { start [] [] with ppu.v := 0x2C05 } .nametable 0x406 = false := by
  refine ⟨⟨_, rfl⟩, ?_⟩
  decide +kernel

theorem witness_LoadsAndStores :
    Instr.mnemonic (.ldaIndY 0xFF) = .lda ∧ Instr.mnemonic (.ldxImm 0) = .ldx ∧ Instr.mnemonic (.ldyAbsX 0xFFFF) = .ldy ∧
      Instr.mnemonic (.staAbs 0x4014) = .sta ∧ Instr.mnemonic (.stxZpY 0xFF) = .stx ∧ Instr.mnemonic (.styAbs 0x2000) = .sty := by
  decide

theorem witness_AddSubtract : Instr.mnemonic (.adcImm 0xFF) = .adc ∧ Instr.mnemonic (.sbcIndX 0xFF) = .sbc := by decide

theorem witness_LogicCompareTest :
    Instr.mnemonic (.andImm 0) = .and ∧ Instr.mnemonic (.oraIndY 0xFF) = .ora ∧ Instr.mnemonic (.eorAbsX 0xFFFF) = .eor ∧
      Instr.mnemonic (.cmpImm 0xFF) = .cmp ∧ Instr.mnemonic (.cpxZp 0) = .cpx ∧ Instr.mnemonic (.cpyAbs 0x2002) = .cpy ∧
      Instr.mnemonic (.bitAbs 0x2002) = .bit := by decide

theorem witness_ReadModifyWrite :
    Instr.mnemonic .aslAcc = .asl ∧ Instr.mnemonic (.lsrAbsX 0xFFFF) = .lsr ∧ Instr.mnemonic .rolAcc = .rol ∧
      Instr.mnemonic (.rorZp 0xFF) = .ror ∧ Instr.mnemonic (.incAbs 0x2007) = .inc ∧ Instr.mnemonic (.decZpX 0) = .dec := by
  decide

theorem witness_NmiEntry : { start [] [] with cpu.nmiPending := true, cpu.sp := 0x00 }.cpu.nmiPending = true := by decide

/-- One state for each of the four cases: counting down, an NMI pending (beside a stall), a stall pending, an instruction. -/
theorem witness_CpuTickPriority :
    State.reset.cpu.countdown ≠ 0 ∧
    (let s := { start [] [] with cpu.nmiPending := true, cpu.dmaPending := true }
     s.cpu.countdown = 0 ∧ s.sys.phase = .running ∧ s.cpu.nmiPending = true) ∧
    (let s := { start [] [] with cpu.dmaPending := true }
     s.cpu.countdown = 0 ∧ s.sys.phase = .running ∧ s.cpu.nmiPending = false ∧ s.cpu.dmaPending = true) ∧
    (let s := start [0x20, 0x00, 0x90] []
     s.cpu.countdown = 0 ∧ s.sys.phase = .running ∧ s.cpu.nmiPending = false ∧ s.cpu.dmaPending = false ∧
       (fetch s).1 = [0x20, 0x00, 0x90]) := by decide +kernel

/-- The decoded instruction of the last case, and that it answers a next state. -/
theorem witness_CpuTickPriority_instruction :
    decode (fetch (start [0x20, 0x00, 0x90] [])).1 = .ok (.jsrAbs 0x9000, []) ∧
      ∃ t, exec (.jsrAbs 0x9000) (fetch (start [0x20, 0x00, 0x90] [])).2 = .next t := ⟨rfl, ⟨_, rfl⟩⟩

theorem witness_CostOccupiesTicks :
    (start [0xEA] []).cpu.countdown = 0 ∧
      answers (boundary (start [0xEA] [])) (fun t => t.sys.phase != .faulted && t.cpu.countdown == 2) = true ∧
      answers (boundary { start [] [] with cpu.dmaPending := true }) (fun t => t.sys.phase != .faulted && t.cpu.countdown == 513) =
        true := by decide +kernel

theorem witness_IllegalOpcodeHalts :
    (let s := start [0xFF] []
     s.cpu.countdown = 0 ∧ s.sys.phase = .running ∧ s.cpu.nmiPending = false ∧ s.cpu.dmaPending = false ∧
       (cpuRead s.cpu.pc s).1 ∈ illegalBytes) ∧
    (after (start [0xFF] [])).sys.phase = .faulted := by decide +kernel

theorem witness_WrongPhaseRefused :
    State.created.sys.phase = .empty ∧ ((loadGame (some []) (some (List.replicate 192 0)) State.created).1).sys.phase = .loadFailed ∧
      { State.created with sys.phase := .loaded }.sys.phase = .loaded := by decide +kernel

/-- A unit that steps the CPU and one that does not, on both TV systems. -/
theorem witness_MasterUnitOrder :
    ((start [0xEA] []).sys.phase = .running ∧ (start [0xEA] []).cfg.header.mapper ≠ .unsupported ∧
      (start [0xEA] []).sys.master % 12 = 0 ∧ answers (cpuTick (start [0xEA] [])) (fun _ => true) = true) ∧
    ({ start [0xEA] [] with sys.master := 1 }.sys.master % 12 ≠ 0) ∧
    ({ start [0xEA] [] with cfg.header.tv := .pal, sys.master := 16 }.sys.master % 16 = 0) := by decide +kernel

theorem witness_StepRunsDecoded :
    (let s := start [0xA9, 0x80] []
     s.runnable ∧ cpuDue s = true ∧ (ppuPart s).cpu.countdown = 0 ∧ (ppuPart s).cpu.nmiPending = false ∧
       (ppuPart s).cpu.dmaPending = false ∧ decode (fetch (ppuPart s)).1 = .ok (.ldaImm 0x80, []) ∧
       ∃ t, exec (.ldaImm 0x80) (fetch (ppuPart s)).2 = .next t) :=
  ⟨⟨rfl, by decide⟩, by decide, by decide +kernel, by decide +kernel, by decide +kernel, rfl, ⟨_, rfl⟩⟩

/-- The tick at (241, 1) with the NMI enabled raises the request. -/
theorem witness_NmiOnlyAtVblank :
    (ppuAt 241 1 0x80 0).cpu.nmiPending = false ∧ answers (step (ppuAt 241 1 0x80 0)) (fun t => t.cpu.nmiPending) = true := by
  decide +kernel

theorem witness_ImageNeverChanges :
    answers (step (start [0x8D, 0x00, 0x80] [])) (fun t => decide (t.cfg = (start [0x8D, 0x00, 0x80] []).cfg)) = true := by
  decide +kernel

/-- A state that meets the invariant, at the last dot of a frame with the NMI enabled, and that steps. -/
theorem witness_StepKeepsInvariant :
    (ppuAt 261 340 0x80 0x18).Inv ∧ answers (step (ppuAt 261 340 0x80 0x18)) (fun _ => true) = true := by
  refine ⟨?_, by decide +kernel⟩
  constructor <;> first | decide | exact Or.inl rfl | exact Nat.zero_le 8

theorem witness_RunningMachineSteps : (start [0x02] []).runnable ∧ (start [0xEA] []).runnable :=
  ⟨⟨rfl, by decide⟩, ⟨rfl, by decide⟩⟩

theorem witness_RamMirrored :
    (0x1FFF#16).toNat < 0x2000 ∧ (0x0000#16).toNat < 0x2000 ∧ (0x1FFF#16).toNat % 2048 = (0x07FF#16).toNat % 2048 ∧
      (0x0800#16).toNat % 2048 ≠ (0x0001#16).toNat % 2048 := by decide

/-- The first and the last address of every row, and a machine of every kind for the PRG-RAM rows. -/
theorem witness_AddressMapRows :
    [0x2000#16, 0x3FFF, 0x4000, 0x4003, 0x4004, 0x4007, 0x4008, 0x4013, 0x4014, 0x4015, 0x4016, 0x4017, 0x4018, 0x5FFF, 0x6000,
      0x7FFF].map cpuTarget =
      [.ppuReg 0, .ppuReg 7, .pulse .p1 0, .pulse .p1 3, .pulse .p2 0, .pulse .p2 3, .unmapped, .unmapped, .oamDma, .apuStatus,
        .controller, .frameCounter, .unmapped, .unmapped, .cartRam, .cartRam] ∧
    (State.reset.cfg.header.mapper = .nrom ∧ State.reset.cfg.nromHasPrgRam = true) ∧
    ({ State.reset with cfg.nromHasPrgRam := false }.cfg.nromHasPrgRam = false) ∧
    (onMapper .mmc1 8 0 State.reset).cfg.header.mapper = .mmc1 ∧ (onMapper .uxrom 8 0 State.reset).cfg.header.mapper = .uxrom ∧
    (onMapper .axrom 8 0 State.reset).cfg.header.mapper = .axrom := by decide +kernel

theorem witness_ControllerPort : (0x01#8).toNat % 2 = 1 ∧ (0xFE#8).toNat % 2 = 0 := by decide

theorem witness_OamDmaCopies : (0x1F#8).toNat < 0x20 ∧ (0x00#8).toNat < 0x20 := by decide

/-- Two addresses of one cell, two addresses of different cells, and a CHR-ROM address, which has no cell. -/
theorem witness_PpuMemoryCells :
    (∃ m k, ppuCell 0x3F10 State.reset m k = true ∧ ppuCell 0x3F00 State.reset m k = true) ∧
    (∃ m k, ppuCell 0x2000 State.reset m k = true ∧ ppuCell 0x2400 State.reset m k = true) ∧
    (∃ m k, ppuCell 0x2800 State.reset m k = true) ∧ (ntIndex State.reset.mirroring 0x2800 ≠ ntIndex State.reset.mirroring 0x2000) ∧
    (∃ m k, ppuCell 0x1FFF (onMapper .nrom 1 0 State.reset) m k = true) ∧ State.reset.cfg.header.chrUnits ≠ 0 := by
  refine ⟨⟨.paletteRam, 0, ?_⟩, ⟨.nametable, 0, ?_⟩, ⟨.nametable, 0x400, ?_⟩, ?_, ⟨.chrRam, 0x1FFF, ?_⟩, ?_⟩ <;> decide +kernel

/-- The first and the last address of ROM space and of CHR space, on every mapper, with CHR-RAM and CHR-ROM. -/
theorem witness_BankedReads :
    0x8000 ≤ (0x8000#16).toNat ∧ 0x8000 ≤ (0xFFFF#16).toNat ∧ (0x1FFF#14).toNat < 0x2000 ∧
    State.reset.cfg.header.mapper = .nrom ∧ State.reset.cfg.header.chrUnits ≠ 0 ∧
    (onMapper .mmc1 8 0 State.reset).cfg.header.mapper = .mmc1 ∧ (onMapper .mmc1 8 0 State.reset).cfg.header.chrUnits = 0 ∧
    (onMapper .uxrom 8 0 State.reset).cfg.header.mapper = .uxrom ∧
    (onMapper .axrom 8 0 State.reset).cfg.header.mapper = .axrom := by decide +kernel

theorem witness_Mmc1SerialLoad :
    (onMapper .mmc1 8 0 State.reset).cfg.header.mapper = .mmc1 ∧ (onMapper .mmc1 8 0 State.reset).mapper.mmc1Count = 0 ∧
      0x8000 ≤ (0x9FFF#16).toNat ∧ 0x8000 ≤ (0xFFFF#16).toNat ∧ (0x7F#8).toNat < 128 ∧ 128 ≤ (0x80#8).toNat ∧
      { onMapper .mmc1 8 0 State.reset with mapper.mmc1Count := 3 }.mapper.mmc1Count.toNat < 4 ∧
      { onMapper .mmc1 8 0 State.reset with mapper.mmc1Count := 4 }.mapper.mmc1Count = 4 := by decide

theorem witness_SimpleMapperWrites :
    0x8000 ≤ (0x8000#16).toNat ∧ State.reset.cfg.header.mapper = .nrom ∧
      (onMapper .uxrom 8 0 State.reset).cfg.header.mapper = .uxrom ∧
      (onMapper .axrom 8 0 State.reset).cfg.header.mapper = .axrom := by decide

theorem witness_PpuRegisterWrites : State.reset.ppu.w = false ∧ { State.reset with ppu.w := true }.ppu.w = true := by decide

theorem witness_PpuRegisterReads :
    0x3F00 ≤ (BitVec.ofNat 14 (0x3F00#15).toNat).toNat ∧ (BitVec.ofNat 14 (0x3EFF#15).toNat).toNat < 0x3F00 ∧
      (BitVec.ofNat 14 (0x7FFF#15).toNat).toNat = 0x3FFF := by decide

/-- The skip, an ordinary dot, the end of a line and the end of a frame; and the start of a frame. -/
theorem witness_PpuPosition :
    (let s := { ppuAt 261 338 0 0x08 with ppu.oddFrame := true }
     s.cfg.header.tv = .ntsc ∧ s.ppu.scanline = 261 ∧ s.ppu.dot = 338 ∧ s.ppu.oddFrame = true ∧ s.ppu.mask.getLsbD 3 = true) ∧
    ((ppuAt 261 338 0 0).ppu.dot ≠ 340) ∧ ((ppuAt 260 340 0 0).ppu.dot = 340 ∧ (ppuAt 260 340 0 0).ppu.scanline + 1 ≠ 262) ∧
    ((ppuAt 261 340 0 0).ppu.dot = 340 ∧ (ppuAt 261 340 0 0).ppu.scanline + 1 = 262) ∧
    (State.reset.ppu.dot = 0 ∧ State.reset.ppu.scanline = 0 ∧ State.reset.ppu.vblank = false ∧
      State.reset.ppu.suppressVbl = false) := by decide

theorem witness_VblankAndSuppression :
    ((ppuAt 241 1 0x80 0).ppu.scanline = 241 ∧ (ppuAt 241 1 0x80 0).ppu.dot = 1 ∧ (ppuAt 241 1 0x80 0).ppu.vblank = false) ∧
    ((ppuAt 261 1 0 0).ppu.scanline = 261 ∧ (ppuAt 261 1 0 0).ppu.dot = 1 ∧ (ppuAt 261 1 0 0).cfg.header.tv = .ntsc) ∧
    (¬ ((ppuAt 241 2 0 0).ppu.scanline = 241 ∧ (ppuAt 241 2 0 0).ppu.dot = 1)) := by decide

theorem witness_ScrollStep :
    ((ppuAt 239 256 0 0x10).ppu.mask.getLsbD 4 = true ∧ (ppuAt 239 256 0 0x10).ppu.scanline < 240) ∧
    ((ppuAt 261 280 0 0x08).ppu.mask.getLsbD 3 = true ∧ (ppuAt 261 280 0 0x08).ppu.scanline = 261) ∧
    ((ppuAt 0 8 0 0x07).ppu.mask.getLsbD 3 = false ∧ (ppuAt 0 8 0 0x07).ppu.mask.getLsbD 4 = false) ∧
    ((ppuAt 240 8 0 0x18).ppu.scanline = 240) := by decide

theorem witness_OnePixelPerDot :
    ((ppuAt 239 256 0 0).ppu.scanline < 240 ∧ 1 ≤ (ppuAt 239 256 0 0).ppu.dot ∧ (ppuAt 239 256 0 0).ppu.dot ≤ 256) ∧
    ¬ ((ppuAt 0 257 0 0).ppu.scanline < 240 ∧ 1 ≤ (ppuAt 0 257 0 0).ppu.dot ∧ (ppuAt 0 257 0 0).ppu.dot ≤ 256) ∧
    ¬ ((ppuAt 240 1 0 0).ppu.scanline < 240) ∧ (ppuAt 0 1 0 0x1F).ppu.mask.toNat < 32 := by decide

/-- Two latched sprites of row 0 on scanline 17, the first transparent in its column 0, the second not; both cover x = 0 to 7, and
the second, flipped both ways and behind the background, shows tile 1's row 7. -/
def twoSprites : State :=
  { ppuAt 17 1 0 0x14 with
    ppu.lineSpr := Memory.ofBytes [16, 2, 0, 0, 16, 1, 0xE3, 0], ppu.lineCount := 2, ppu.lineSpr0 := true,
    cfg.chrRom := (Memory.write [] 0x17 0x81).write 0x1F 0x81 }

/-- A sprite pixel by R375: from the second sprite, with its palette and its behind bit; nothing where it is transparent, past it,
or where the left column is clipped. -/
theorem test_sprite_pixel :
    twoSprites.spritePixel 0 17 = ⟨3, 3, true, false⟩ ∧ twoSprites.spritePixel 7 17 = ⟨3, 3, true, false⟩ ∧
    twoSprites.spritePixel 1 17 = .transparent ∧ twoSprites.spritePixel 8 17 = .transparent ∧
    { twoSprites with ppu.mask := 0x10 }.spritePixel 7 17 = .transparent := by decide +kernel

theorem witness_Compositing :
    ((ppuAt 0 1 0x08 0).ppu.ctrl.getLsbD 5 = false) ∧ ((ppuAt 0 1 0x20 0).ppu.ctrl.getLsbD 5 = true) ∧
    (twoSprites.ppu.mask.getLsbD 4 = true ∧ twoSprites.ppu.mask.getLsbD 2 = true ∧ 1 < twoSprites.ppu.lineCount ∧
      (twoSprites.ppu.lineSpr.read 3).toNat ≤ 0 ∧ 0 ≤ (twoSprites.ppu.lineSpr.read 7).toNat + 7 ∧
      (twoSprites.ppuRead 0x0020).toNat / 128 % 2 = 0 ∧ (twoSprites.ppuRead 0x0028).toNat / 128 % 2 = 0 ∧
      spritePatternAddr twoSprites.ppu (twoSprites.ppu.lineSpr.read 5) (7 - (17 - 1 - 16)) = 0x0017 ∧
      2 * ((twoSprites.ppuRead (0x0017 + 8)).toNat / 2 ^ (7 - (7 - 0)) % 2) +
        (twoSprites.ppuRead 0x0017).toNat / 2 ^ (7 - (7 - 0)) % 2 ≠ 0) ∧
    ((ppuAt 0 1 0 0x08).ppu.mask.getLsbD 4 = false ∧ (ppuAt 0 1 0 0x10).ppu.mask.getLsbD 2 = false ∧
      (ppuAt 0 1 0 0x10).ppu.lineCount = 0) ∧
    ((ppuAt 239 256 0 0).ppu.scanline < 240 ∧ 1 ≤ (ppuAt 239 256 0 0).ppu.dot ∧ (ppuAt 239 256 0 0).ppu.dot ≤ 256) := by
  decide +kernel

theorem witness_BackgroundPixel :
    ((ppuAt 0 1 0 0x08).ppu.mask.getLsbD 3 = true ∧ (ppuAt 0 1 0 0x08).ppu.mask.getLsbD 1 = false ∧ 8 ≤ 8) ∧
    ((ppuAt 0 1 0 0x0A).ppu.mask.getLsbD 3 = true ∧ (ppuAt 0 1 0 0x0A).ppu.mask.getLsbD 1 = true) ∧
    ((ppuAt 0 1 0 0x12).ppu.mask.getLsbD 3 = false) := by decide

/-- The overflow flag rises in one tick and falls in another; the scan at its first and last dot, in range and not, at sprite 63. -/
theorem witness_OverflowFlag :
    (let s := { ppuAt 10 100 0 0x10 with ppu.evPhase := .ovfScan, ppu.evFound := 8, ppu.evLatch := 10 }
     s.ppu.overflow = false ∧ s.ppuTick.ppu.overflow = true) ∧
    (let p := { (ppuAt 239 256 0x20 0x08).ppu with evPhase := .ovfScan, evLatch := 224 }
     p.evPhase = .ovfScan ∧ p.scanline < 240 ∧ 66 ≤ p.dot ∧ p.dot ≤ 256 ∧ p.dot % 2 = 0 ∧ p.mask.getLsbD 3 = true ∧
       p.evLatch.toNat ≤ p.scanline ∧ p.ctrl.getLsbD 5 = true ∧ p.scanline - p.evLatch.toNat < 16) ∧
    (let p := { (ppuAt 0 66 0 0x10).ppu with evPhase := .ovfScan, evLatch := 1, evN := 63, evM := 3 }
     p.evPhase = .ovfScan ∧ p.scanline < 240 ∧ 66 ≤ p.dot ∧ p.dot ≤ 256 ∧ p.dot % 2 = 0 ∧ p.mask.getLsbD 4 = true ∧
       ¬ p.evLatch.toNat ≤ p.scanline ∧ p.evN = 63) ∧
    (let s := { ppuAt 261 1 0 0 with ppu.overflow := true }
     s.ppu.overflow = true ∧ s.ppuTick.ppu.overflow = false) := by decide +kernel

/-- Sprite 63 about to be copied, at the last possible dot, into the last slot. -/
def lastSprite : Ppu :=
  { (ppuAt 239 249 0x20 0x08).ppu with evPhase := .scan, evN := 63, evFound := 7, oam := [(252, 224#8)] }

/-- Sprite 0 about to be copied, at the first possible dot, into the first slot. -/
def firstSprite : Ppu := { (ppuAt 7 67 0 0x10).ppu with evPhase := .scan, evN := 0, evFound := 0 }

/-- The PPU at an even dot of the evaluation, in a phase, with a latched byte. -/
def evaluating (phase : EvPhase) (latch : Byte) (m : BitVec 2) (n : Nat) : Ppu :=
  { (ppuAt 30 256 0 0x08).ppu with evPhase := phase, evLatch := latch, evM := m, evN := n, evFound := 7 }

/-- A position for every clause about one dot: clearing (even and odd), the start, a read, a sprite in range and one that is not (the
last one), a copied byte and a last copied byte, a done scan, disabled rendering, dots outside, and the three latches. -/
theorem witness_SpriteCopy_dots :
    ((ppuAt 239 64 0 0x08).ppu.scanline < 240 ∧ (ppuAt 239 64 0 0x08).ppu.mask.getLsbD 3 = true ∧
      1 ≤ (ppuAt 0 1 0 0x10).ppu.dot ∧ (ppuAt 0 1 0 0x10).ppu.mask.getLsbD 4 = true) ∧
    ((ppuAt 0 65 0 0x10).ppu.dot = 65) ∧ ((ppuAt 0 67 0 0x10).ppu.dot % 2 = 1 ∧ (ppuAt 0 255 0 0x10).ppu.dot ≤ 255) ∧
    (let p := evaluating .scan 23 0 0
     p.scanline < 240 ∧ p.mask.getLsbD 3 = true ∧ 66 ≤ p.dot ∧ p.dot ≤ 256 ∧ p.dot % 2 = 0 ∧ p.evPhase = .scan ∧
       p.evLatch.toNat ≤ p.scanline ∧ p.ctrl.getLsbD 5 = false ∧ p.scanline - p.evLatch.toNat < 8) ∧
    (let p := evaluating .scan 22 0 63
     p.evPhase = .scan ∧ ¬ p.scanline - p.evLatch.toNat < 8 ∧ p.evN = 63) ∧
    (let p := evaluating .copy 0 2 0
     p.evPhase = .copy ∧ p.evM.toNat < 3) ∧
    (let p := evaluating .copy 0 3 5
     p.evPhase = .copy ∧ p.evM = 3 ∧ p.evFound + 1 = 8) ∧
    ((evaluating .done 0 0 0).evPhase = .done ∧ ¬ (ppuAt 240 66 0 0x08).ppu.scanline < 240 ∧
      (ppuAt 0 66 0 0x07).ppu.mask.getLsbD 3 = false ∧ (ppuAt 0 66 0 0x07).ppu.mask.getLsbD 4 = false ∧
      (ppuAt 0 0 0 0x08).ppu.dot = 0 ∧ 257 ≤ (ppuAt 0 257 0 0x08).ppu.dot) ∧
    ((ppuAt 239 257 0 0x08).ppu.dot = 257 ∧ (ppuAt 239 257 0 0).ppu.mask.getLsbD 3 = false ∧
      (ppuAt 261 257 0 0x08).ppu.scanline = 261 ∧ (ppuAt 261 257 0 0x08).cfg.header.tv = .ntsc ∧
      ¬ (ppuAt 260 257 0 0x08).ppu.scanline < 240) := by decide

theorem witness_SpriteCopy :
    (let p := lastSprite
     p.evPhase = .scan ∧ p.evM = 0 ∧ p.evFound < 8 ∧ p.evN ≤ 63 ∧ p.scanline < 240 ∧ 67 ≤ p.dot ∧ p.dot ≤ 249 ∧ p.dot % 2 = 1 ∧
       p.mask.getLsbD 3 = true ∧ (p.oam.read (4 * p.evN)).toNat ≤ p.scanline ∧ p.ctrl.getLsbD 5 = true ∧
       p.scanline - (p.oam.read (4 * p.evN)).toNat < 16) ∧
    (let p := firstSprite
     p.evPhase = .scan ∧ p.evM = 0 ∧ p.evFound < 8 ∧ p.evN = 0 ∧ p.scanline < 240 ∧ 67 ≤ p.dot ∧ p.dot ≤ 249 ∧ p.dot % 2 = 1 ∧
       p.mask.getLsbD 4 = true ∧ (p.oam.read (4 * p.evN)).toNat ≤ p.scanline ∧ p.ctrl.getLsbD 5 = false ∧
       p.scanline - (p.oam.read (4 * p.evN)).toNat < 8) := by decide +kernel

/-- A channel that sounds, with the smallest audible period and a sweep target of 0x7FF, and the silent ones beside it. -/
def soundingPulse : Pulse :=
  { Pulse.powerUp with
    enabled := true, seq := 0x80, timerPeriod := 8, length := 1, constVol := true, volume := 15, swNegate := true, swShift := 7 }

theorem witness_PulseOutputAndSample :
    (¬ (soundingPulse.timerPeriod.toNat < 8 ∨ soundingPulse.length.toNat = 0 ∨ soundingPulse.enabled = false ∨
      0x7FF < (sweepTarget .p2 soundingPulse).toNat)) ∧ pulseOut .p2 soundingPulse = 15 ∧
    ({ soundingPulse with timerPeriod := 7 }.timerPeriod.toNat < 8) ∧
    0x7FF < (sweepTarget .p1 { soundingPulse with timerPeriod := 0x7F1, swNegate := false }).toNat ∧
    sweepTarget .p1 { soundingPulse with timerPeriod := 0x7F0, swNegate := false } = 0x7FF ∧
    pulseOut .p1 Pulse.powerUp + pulseOut .p2 Pulse.powerUp = 0 := by decide

theorem witness_ApuTick : State.reset.apu.fsCycle = 0 := by decide

theorem witness_PowerUpAndReset :
    State.reset.cfg.header.mapper = .nrom ∧ (onMapper .uxrom 8 0 State.reset).cfg.header.mapper = .uxrom ∧
      (onMapper .mmc1 8 0 State.reset).cfg.header.mapper = .mmc1 ∧
      (onMapper .axrom 8 0 State.reset).cfg.header.mapper = .axrom := by decide

theorem witness_HeaderAndResetImage :
    List.take 4 [0x4E#8, 0x45, 0x53] ≠ [0x4E, 0x45, 0x53, 0x1A] ∧
      List.take 4 [0x4E#8, 0x45, 0x53, 0x1B, 0] ≠ [0x4E, 0x45, 0x53, 0x1A] := by decide

end Sys2Proof.Tests

end
end

section
/-! SUPPORT. The proofs of the statements about memory and the address map (20_memory.md): internal RAM, the controller port, the
OAM DMA, and the PPU's memory cells. -/

namespace Sys2Proof.Machine

/-! Internal RAM (20_memory.md R84). -/

theorem cpuTarget_ram (a : Addr) (h : a.toNat < 0x2000) : cpuTarget a = .ram (a.toNat % 2048) := by
  have hmask : (a &&& 0x07FF).toNat = a.toNat % 2048 := by
    rw [BitVec.toNat_and]
    exact Nat.and_two_pow_sub_one_eq_mod a.toNat 11
  simp only [cpuTarget, h, if_true, hmask]

theorem cpuRead_ram (a : Addr) (s : State) (h : a.toNat < 0x2000) :
    cpuRead a s = (s.ram.read (a.toNat % 2048), s) := by
  simp only [cpuRead, cpuTarget_ram a h]

theorem cpuWrite_ram (a : Addr) (v : Byte) (s : State) (h : a.toNat < 0x2000) :
    cpuWrite a v s = s.setRam (s.ram.write (a.toNat % 2048) v) := by
  simp only [cpuWrite, cpuTarget_ram a h]

/-- Settles O37: both accesses reach the RAM cell at the address modulo 2048, so the law of a read after a write decides. -/
theorem ramMirrored : Obligations.RamMirrored := by
  intro a b v s ha hb
  refine ⟨cpuRead_ram b s hb, ?_⟩
  rw [cpuWrite_ram a v s ha, cpuRead_ram b _ hb, cpuRead_ram b s hb]
  simp [eq_comm]

/-! The controller port (20_memory.md R88). -/

theorem cpuRead_controller (s : State) : cpuRead 0x4016 s = s.readController := rfl

theorem cpuWrite_controller (v : Byte) (s : State) : cpuWrite 0x4016 v s = s.setSys (s.sys.writeController v) := rfl

theorem Sys.writeController_eq (y : Sys) (v : Byte) :
    y.writeController v = { y with
      ctrlStrobe := decide (v.toNat % 2 = 1), ctrlShift := if v.toNat % 2 = 1 then y.ctrlButtons else y.ctrlShift } := by
  have hbit : v.getLsbD 0 = decide (v.toNat % 2 = 1) := Nat.testBit_zero v.toNat
  unfold Sys.writeController
  rw [hbit]
  by_cases hv : v.toNat % 2 = 1 <;> simp [hv]

/-- A shift register after a read: a 1 enters at the top. -/
theorem shiftInOne_eq_ofNat (x : Byte) : (x >>> 1) ||| 0x80#8 = BitVec.ofNat 8 (x.toNat / 2 + 128) := by
  have h : ∀ n : Fin 256, (BitVec.ofFin n >>> 1) ||| 0x80#8 = BitVec.ofNat 8 (n.val / 2 + 128) := by decide +kernel
  exact h x.toFin

theorem getLsbD_shiftInOne (x : Byte) (n : Nat) (hn : n < 8) :
    ((x >>> 1) ||| 0x80#8).getLsbD n = if n + 1 < 8 then x.getLsbD (n + 1) else true := by
  have htop : ∀ i : Fin 8, (0x80#8).getLsbD i = decide (i.val = 7) := by decide
  have h := htop ⟨n, hn⟩
  simp only at h
  rw [BitVec.getLsbD_or, BitVec.getLsbD_ushiftRight, h, Nat.add_comm 1 n]
  by_cases h7 : n = 7
  · simp [h7]
  · simp [h7, show n + 1 < 8 by omega]

theorem readController_bit (s : State) :
    s.readController.1.getLsbD 0 = (if s.sys.ctrlStrobe = true then s.sys.ctrlButtons else s.sys.ctrlShift).getLsbD 0 := by
  simp only [State.readController, BitVec.getLsbD_append, BitVec.getLsbD_extractLsb']
  simp

theorem readController_sys (s : State) :
    s.readController.2.sys = { s.sys with
      ctrlShift := if s.sys.ctrlStrobe = true then s.sys.ctrlButtons else (s.sys.ctrlShift >>> 1) ||| 0x80#8 } := by
  simp only [State.readController, State.setSys_sys]
  split <;> rfl

/-- With the strobe off, the n-th read gives bit n of the shift register, and 1 once its eight bits are out. -/
theorem controllerRead_bit (n : Nat) (s : State) (hoff : s.sys.ctrlStrobe = false) :
    (controllerRead n s).getLsbD 0 = if n < 8 then s.sys.ctrlShift.getLsbD n else true := by
  induction n generalizing s with
  | zero =>
    rw [controllerRead, cpuRead_controller, readController_bit, hoff]
    rfl
  | succ n ih =>
    have hsys : (cpuRead 0x4016 s).2.sys = { s.sys with ctrlShift := (s.sys.ctrlShift >>> 1) ||| 0x80#8 } := by
      rw [cpuRead_controller, readController_sys, hoff]
      rfl
    rw [controllerRead, ih _ (by rw [hsys]; exact hoff), hsys]
    by_cases hn : n < 8
    · simp only [hn, if_true, getLsbD_shiftInOne _ n hn]
    · simp [hn, show ¬ n + 1 < 8 by omega]

/-- The strobe pulse: the shift register holds the buttons, and the strobe is off. -/
theorem strobePulse_sys (s : State) (v w : Byte) (hv : v.toNat % 2 = 1) (hw : w.toNat % 2 = 0) :
    (cpuWrite 0x4016 w (cpuWrite 0x4016 v s)).sys =
      { s.sys with ctrlStrobe := false, ctrlShift := s.sys.ctrlButtons } := by
  simp only [cpuWrite_controller, State.setSys_sys, Sys.writeController_eq, hv, hw]
  rfl

/-- Settles O39: a write and a read by their rules; the reads after a strobe pulse by induction on their number. -/
theorem controllerPort : Obligations.ControllerPort := by
  intro s v w n
  refine ⟨?_, readController_bit s, ?_, fun hv hw => ?_⟩
  · rw [cpuWrite_controller, Sys.writeController_eq]
    rfl
  · rw [cpuRead_controller, readController_sys, shiftInOne_eq_ofNat]
  · have hsys := strobePulse_sys s v w hv hw
    rw [controllerRead_bit n _ (by rw [hsys]), hsys]

/-! The OAM DMA (20_memory.md R92). -/

/-- The machine after the first `k` bytes of an OAM DMA. -/
def dmaUpTo (page : Byte) (s : State) (k : Nat) : State := (List.range k).foldl (dmaByte page) s

theorem dmaUpTo_zero (page : Byte) (s : State) : dmaUpTo page s 0 = s := rfl

theorem dmaUpTo_succ (page : Byte) (s : State) (k : Nat) :
    dmaUpTo page s (k + 1) = dmaByte page (dmaUpTo page s k) k := by
  simp [dmaUpTo, List.range_succ]

theorem cpuWrite_oamDma (v : Byte) (s : State) : cpuWrite 0x4014 v s = (dmaUpTo v s 256).setDma true := rfl

theorem toNat_dmaAddr (page : Byte) (i : Nat) (hi : i < 256) :
    (page ++ BitVec.ofNat 8 i : Addr).toNat = 256 * page.toNat + i := by
  rw [BitVec.toNat_append, BitVec.toNat_ofNat, Nat.mod_eq_of_lt hi, ← Nat.shiftLeft_add_eq_or_of_lt hi, Nat.shiftLeft_eq]
  omega

theorem ReadsOnly.oamAddr {s t : State} (h : ReadsOnly s t) : t.ppu.oamAddr = s.ppu.oamAddr := by rw [h]; rfl

theorem dmaByte_oamAddr (page : Byte) (s : State) (i : Nat) : (dmaByte page s i).ppu.oamAddr = s.ppu.oamAddr :=
  (cpuRead_readsOnly _ s).oamAddr

theorem dmaUpTo_oamAddr (page : Byte) (s : State) (k : Nat) : (dmaUpTo page s k).ppu.oamAddr = s.ppu.oamAddr := by
  induction k with
  | zero => rfl
  | succ k ih => rw [dmaUpTo_succ, dmaByte_oamAddr, ih]

/-- One byte of the DMA in whole numbers: the bus read, then the OAM write at `oam_addr + i` modulo 256. -/
theorem dmaByte_eq (page : Byte) (s : State) (i : Nat) :
    dmaByte page s i =
      (let r := cpuRead (page ++ BitVec.ofNat 8 i) s
       { r.2 with ppu := { r.2.ppu with oam := r.2.ppu.oam.write ((s.ppu.oamAddr.toNat + i) % 256) r.1 } }) := by
  simp only [dmaByte, State.setPpu, (cpuRead_readsOnly _ s).oamAddr, BitVec.toNat_add, BitVec.toNat_ofNat,
    Nat.add_mod_mod]

/-- From a page of internal RAM, one byte of the DMA changes one OAM cell and nothing else. -/
theorem dmaByte_ramPage (page : Byte) (s : State) (i : Nat) (hpage : page.toNat < 0x20) (hi : i < 256) :
    dmaByte page s i = s.setPpu { s.ppu with
      oam := s.ppu.oam.write ((s.ppu.oamAddr.toNat + i) % 256) (s.ram.read ((256 * page.toNat + i) % 2048)) } := by
  have haddr := toNat_dmaAddr page i hi
  rw [dmaByte_eq, cpuRead_ram _ s (by omega), haddr]
  rfl

theorem dmaUpTo_ram (page : Byte) (s : State) (k : Nat) : (dmaUpTo page s k).ram = s.ram := by
  induction k with
  | zero => rfl
  | succ k ih => rw [dmaUpTo_succ, ← ih]; exact (cpuRead_readsOnly _ _).ram

/-- From a page of internal RAM, OAM holds the first `k` bytes of the page after `k` bytes of the DMA. -/
theorem dmaUpTo_oam_read (page : Byte) (s : State) (k : Nat) (hpage : page.toNat < 0x20) (hk : k ≤ 256) (i : Nat)
    (hi : i < k) :
    (dmaUpTo page s k).ppu.oam.read ((s.ppu.oamAddr.toNat + i) % 256) = s.ram.read ((256 * page.toNat + i) % 2048) := by
  induction k with
  | zero => omega
  | succ k ih =>
    rw [dmaUpTo_succ, dmaByte_ramPage page _ k hpage (by omega), State.setPpu_ppu, Memory.read_write, dmaUpTo_oamAddr,
      dmaUpTo_ram]
    by_cases hik : i = k
    · simp [hik]
    · have hother : (s.ppu.oamAddr.toNat + i) % 256 ≠ (s.ppu.oamAddr.toNat + k) % 256 := by omega
      rw [if_neg hother, ih (by omega) (by omega)]

/-- Settles O40: the chain of states is the DMA cut after each byte; OAMADDR and the copy by induction on the bytes done. -/
theorem oamDmaCopies : Obligations.OamDmaCopies := by
  intro v s
  refine ⟨⟨dmaUpTo v s, dmaUpTo_zero v s, fun i hi => ?_, cpuWrite_oamDma v s⟩, ?_, fun hpage i hi => ?_⟩
  · refine ⟨_, toNat_dmaAddr v i hi, ?_⟩
    rw [dmaUpTo_succ, dmaByte_eq, dmaUpTo_oamAddr]
  · rw [cpuWrite_oamDma, State.setDma_ppu, dmaUpTo_oamAddr]
  · rw [cpuWrite_oamDma, State.setDma_ppu]
    exact dmaUpTo_oam_read v s 256 hpage le_rfl i hi

/-! The PPU's memory (20_memory.md R100 to R104). -/

/-- `NtIndex` in whole numbers: the physical table of the logical one, and the offset in it. -/
theorem ntIndex_eq (m : Mirroring) (a : BitVec 14) :
    ntIndex m a = physicalTable m (a.toNat / 1024 % 4) * 1024 + a.toNat % 1024 := by
  simp [ntIndex, BitVec.extractLsb'_toNat, Nat.shiftRight_eq_div_pow]

/-- The printed table of the physical kilobytes, one row per mirroring mode. -/
theorem physicalTable_rows (tbl : Nat) (h : tbl < 4) :
    physicalTable .horizontal tbl = [0, 0, 1, 1].getD tbl 0 ∧ physicalTable .vertical tbl = [0, 1, 0, 1].getD tbl 0 ∧
    physicalTable .oneScreenLow tbl = 0 ∧ physicalTable .oneScreenHigh tbl = 1 ∧
    physicalTable .fourScreen tbl = [0, 1, 2, 3].getD tbl 0 := by
  interval_cases tbl <;> decide

theorem palIndex_eq (a : BitVec 14) :
    palIndex a = if a.toNat % 32 ∈ [0x10, 0x14, 0x18, 0x1C] then a.toNat % 32 - 16 else a.toNat % 32 := by
  have hmask : a &&& 0x1F#14 = BitVec.ofNat 14 (a.toNat % 32) := by
    apply BitVec.eq_of_toNat_eq
    rw [BitVec.toNat_and, BitVec.toNat_ofNat (a.toNat % 32), Nat.mod_eq_of_lt (a := a.toNat % 32) (by omega)]
    exact Nat.and_two_pow_sub_one_eq_mod a.toNat 5
  have hrow : ∀ i < 32, (if BitVec.ofNat 14 i &&& 0x13#14 = 0x10#14 then (BitVec.ofNat 14 i &&& 0x0F#14).toNat
      else (BitVec.ofNat 14 i).toNat) = if i ∈ [0x10, 0x14, 0x18, 0x1C] then i - 16 else i := by decide
  simp only [palIndex, hmask]
  exact hrow _ (Nat.mod_lt _ (by decide))

/-- A PPU read at an address with a cell gives the byte of that cell. -/
theorem ppuRead_of_cell {b : BitVec 14} {s : State} {m : Space} {k : Nat} (h : ppuCell b s m k = true) :
    s.ppuRead b = s.byteAt m k := by
  by_cases hchr : b.toNat < 0x2000
  · obtain ⟨⟨hram, rfl⟩, rfl⟩ : (s.cfg.chrIsRam = true ∧ m = .chrRam) ∧ k = chrOffset s.cfg s.mapper b := by
      simpa [ppuCell, hchr] using h
    simp [State.ppuRead, State.chrRead, State.byteAt, hchr, hram]
  · by_cases hnt : b.toNat < 0x3F00
    · obtain ⟨rfl, rfl⟩ : m = .nametable ∧ k = ntIndex s.mirroring b := by simpa [ppuCell, hchr, hnt] using h
      simp [State.ppuRead, State.byteAt, hchr, hnt]
    · obtain ⟨rfl, rfl⟩ : m = .paletteRam ∧ k = palIndex b := by simpa [ppuCell, hchr, hnt] using h
      simp [State.ppuRead, State.byteAt, hchr, hnt]

/-- Every address has a cell, but those of CHR-ROM. -/
theorem exists_ppuCell_iff (a : BitVec 14) (s : State) :
    (∃ m k, ppuCell a s m k = true) ↔ (0x2000 ≤ a.toNat ∨ s.cfg.header.chrUnits = 0) := by
  by_cases hchr : a.toNat < 0x2000
  · have h : ¬ 0x2000 ≤ a.toNat := by omega
    simp [ppuCell, hchr, h, CartConfig.chrIsRam]
  · by_cases hnt : a.toNat < 0x3F00 <;> simp [ppuCell, hchr, hnt, Nat.le_of_not_lt hchr]

/-- A PPU read at an address without a cell gives a byte of CHR-ROM. -/
theorem ppuRead_of_no_cell {b : BitVec 14} {s : State} (h : ¬ ∃ m k, ppuCell b s m k = true) :
    s.ppuRead b = s.cfg.chrRom.read (chrOffset s.cfg s.mapper b) := by
  rw [exists_ppuCell_iff, not_or] at h
  obtain ⟨hlow, hrom⟩ := h
  simp [State.ppuRead, State.chrRead, Nat.lt_of_not_le hlow, CartConfig.chrIsRam, hrom]

theorem byteAt_setChrRam_write (s : State) (i : Nat) (v : Byte) (m : Space) (k : Nat) :
    (s.setChrRam (s.chrRam.write i v)).byteAt m k = if m = .chrRam ∧ k = i then v else s.byteAt m k := by
  cases m <;> simp [State.byteAt]

theorem byteAt_setNt_write (s : State) (i : Nat) (v : Byte) (m : Space) (k : Nat) :
    (s.setPpu { s.ppu with nt := s.ppu.nt.write i v }).byteAt m k =
      if m = .nametable ∧ k = i then v else s.byteAt m k := by
  cases m <;> simp [State.byteAt]

theorem byteAt_setPalette_write (s : State) (i : Nat) (v : Byte) (m : Space) (k : Nat) :
    (s.setPpu { s.ppu with palette := s.ppu.palette.write i v }).byteAt m k =
      if m = .paletteRam ∧ k = i then v else s.byteAt m k := by
  cases m <;> simp [State.byteAt]

/-- A PPU write stores to the cell of its address and to no other byte of the machine. -/
theorem byteAt_ppuWrite (a : BitVec 14) (v : Byte) (s : State) (m : Space) (k : Nat) :
    (s.ppuWrite a v).byteAt m k = if ppuCell a s m k = true then v else s.byteAt m k := by
  by_cases hchr : a.toNat < 0x2000
  · by_cases hram : s.cfg.chrIsRam = true <;>
      simp [State.ppuWrite, State.chrWrite, ppuCell, hchr, hram, byteAt_setChrRam_write]
  · by_cases hnt : a.toNat < 0x3F00
    · simp [State.ppuWrite, ppuCell, hchr, hnt, byteAt_setNt_write]
    · simp [State.ppuWrite, ppuCell, hchr, hnt, byteAt_setPalette_write]

theorem ppuWrite_cfg (a : BitVec 14) (v : Byte) (s : State) : (s.ppuWrite a v).cfg = s.cfg := (ppuWrite_busOnly a v s).cfg

theorem ppuWrite_mapper (a : BitVec 14) (v : Byte) (s : State) : (s.ppuWrite a v).mapper = s.mapper := by
  unfold State.ppuWrite State.chrWrite
  split_ifs <;> rfl

/-- A PPU write moves no address to another cell: the mapping is a function of the image and the mapper. -/
theorem ppuCell_ppuWrite (a b : BitVec 14) (v : Byte) (s : State) (m : Space) (k : Nat) :
    ppuCell b (s.ppuWrite a v) m k = ppuCell b s m k := by
  simp only [ppuCell, State.mirroring, ppuWrite_cfg, ppuWrite_mapper]

theorem ppuRead_ppuWrite_same {a b : BitVec 14} (v : Byte) {s : State} {m : Space} {k : Nat}
    (ha : ppuCell a s m k = true) (hb : ppuCell b s m k = true) : (s.ppuWrite a v).ppuRead b = v := by
  rw [← ppuCell_ppuWrite a b v] at hb
  rw [ppuRead_of_cell hb, byteAt_ppuWrite, if_pos ha]

theorem ppuRead_ppuWrite_other {a b : BitVec 14} (v : Byte) {s : State}
    (h : ¬ ∃ m k, ppuCell a s m k = true ∧ ppuCell b s m k = true) : (s.ppuWrite a v).ppuRead b = s.ppuRead b := by
  by_cases hb : ∃ m k, ppuCell b s m k = true
  · obtain ⟨m, k, hb⟩ := hb
    have ha : ¬ ppuCell a s m k = true := fun ha => h ⟨m, k, ha, hb⟩
    have hb' := hb
    rw [← ppuCell_ppuWrite a b v] at hb'
    rw [ppuRead_of_cell hb', ppuRead_of_cell hb, byteAt_ppuWrite, if_neg ha]
  · have hb' : ¬ ∃ m k, ppuCell b (s.ppuWrite a v) m k = true := by simpa only [ppuCell_ppuWrite] using hb
    rw [ppuRead_of_no_cell hb', ppuRead_of_no_cell hb, ppuWrite_cfg, ppuWrite_mapper]

/-- Settles O41: the tables by their rows; a read after a write by the byte of the cell each address has. -/
theorem ppuMemoryCells : Obligations.PpuMemoryCells := by
  refine ⟨fun a => ?_, fun a b v s => ⟨?_, ppuRead_ppuWrite_other v, exists_ppuCell_iff a s⟩⟩
  · obtain ⟨hh, hv, hlow, hhigh, hfour⟩ := physicalTable_rows (a.toNat / 1024 % 4) (Nat.mod_lt _ (by decide))
    simp only [ntIndex_eq, hh, hv, hlow, hhigh, hfour, palIndex_eq, Nat.zero_mul, Nat.one_mul, Nat.zero_add, and_self]
  · rintro ⟨m, k, ha, hb⟩
    exact ppuRead_ppuWrite_same v ha hb

end Sys2Proof.Machine
end

section
/-! SUPPORT. The proofs of the statements about the mappers (21_mappers.md): the offsets of the four boards in whole numbers, and
MMC1's serial load register. -/

namespace Sys2Proof.Machine

/-! Bits in whole numbers. -/

/-- A mask of low ones is a remainder. -/
theorem toNat_and_lowMask {w : Nat} (x m : BitVec w) (k : Nat) (h : m.toNat = 2 ^ k - 1) :
    (x &&& m).toNat = x.toNat % 2 ^ k := by
  rw [BitVec.toNat_and, h, Nat.and_two_pow_sub_one_eq_mod]

theorem toNat_bitSlice {w : Nat} (x : BitVec w) (start len : Nat) :
    (x.extractLsb' start len).toNat = x.toNat / 2 ^ start % 2 ^ len := by
  rw [BitVec.extractLsb'_toNat, Nat.shiftRight_eq_div_pow]

/-! Banking (21_mappers.md R131, R132, R143, R145, R157, R158, R162, R163). -/

theorem mmc1PrgOffset_eq (c : CartConfig) (m : Mapper) (a : Addr) :
    mmc1PrgOffset c m a =
      (if m.mmc1Control.toNat / 4 % 4 = 0 ∨ m.mmc1Control.toNat / 4 % 4 = 1 then
          m.mmc1Prg.toNat % 16 / 2 * 32768 + a.toNat % 32768
        else if m.mmc1Control.toNat / 4 % 4 = 2 then
          (if a.toNat < 0xC000 then 0 else m.mmc1Prg.toNat % 16) * 16384 + a.toNat % 16384
        else (if a.toNat < 0xC000 then m.mmc1Prg.toNat % 16 else c.header.prgUnits - 1) * 16384 + a.toNat % 16384) %
      (16384 * c.header.prgUnits) := by
  have hmode : m.mmc1Control.toNat / 4 % 4 < 4 := Nat.mod_lt _ (by decide)
  simp only [mmc1PrgOffset, toNat_bitSlice, toNat_and_lowMask a 0x7FFF 15 rfl, toNat_and_lowMask a 0x3FFF 14 rfl,
    CartConfig.nb16, CartConfig.prgSize, Nat.reducePow, Nat.div_one]
  generalize m.mmc1Control.toNat / 4 % 4 = mode at hmode ⊢
  interval_cases mode <;> rfl

theorem uxromPrgOffset_eq (c : CartConfig) (m : Mapper) (a : Addr) :
    uxromPrgOffset c m a =
      (if a.toNat < 0xC000 then m.uxromBank.toNat % c.header.prgUnits else c.header.prgUnits - 1) * 16384 +
        a.toNat % 16384 := by
  simp only [uxromPrgOffset, toNat_and_lowMask a 0x3FFF 14 rfl, CartConfig.nb16, Nat.reducePow]

theorem axromPrgOffset_eq (c : CartConfig) (m : Mapper) (a : Addr) :
    axromPrgOffset c m a = (m.axromBank.toNat * 32768 + a.toNat % 32768) % (16384 * c.header.prgUnits) := by
  simp only [axromPrgOffset, toNat_and_lowMask a 0x7FFF 15 rfl, CartConfig.prgSize, Nat.reducePow]

theorem CartConfig.chrIsRam_iff (c : CartConfig) : c.chrIsRam = true ↔ c.header.chrUnits = 0 := by
  simp [CartConfig.chrIsRam]

theorem CartConfig.chrSize_eq (c : CartConfig) :
    c.chrSize = if c.header.chrUnits = 0 then 8192 else 8192 * c.header.chrUnits := by
  simp only [CartConfig.chrSize, c.chrIsRam_iff]

theorem mmc1ChrOffset_eq (c : CartConfig) (m : Mapper) (pa : BitVec 14) :
    mmc1ChrOffset c m pa =
      (if m.mmc1Control.toNat / 16 % 2 = 0 then m.mmc1Chr0.toNat / 2 * 8192 + pa.toNat % 8192
        else if pa.toNat < 0x1000 then m.mmc1Chr0.toNat * 4096 + pa.toNat % 4096
        else m.mmc1Chr1.toNat * 4096 + pa.toNat % 4096) % c.chrSize := by
  have hmode : m.mmc1Control.getLsbD 4 = false ↔ m.mmc1Control.toNat / 16 % 2 = 0 := by
    rw [BitVec.getLsbD, Nat.testBit_eq_decide_div_mod_eq, decide_eq_false_iff_not, Nat.mod_two_not_eq_one]
  simp only [mmc1ChrOffset, hmode, toNat_and_lowMask pa 0x1FFF 13 rfl, toNat_and_lowMask pa 0x0FFF 12 rfl, Nat.reducePow]

theorem ppuRead_chr (s : State) (pa : BitVec 14) (h : pa.toNat < 0x2000) :
    s.ppuRead pa = if s.cfg.header.chrUnits = 0 then s.chrRam.read (chrOffset s.cfg s.mapper pa)
      else s.cfg.chrRom.read (chrOffset s.cfg s.mapper pa) := by
  simp only [State.ppuRead, h, if_true, State.chrRead, s.cfg.chrIsRam_iff]

theorem ppuWrite_chr (s : State) (pa : BitVec 14) (v : Byte) (h : pa.toNat < 0x2000) :
    s.ppuWrite pa v = if s.cfg.header.chrUnits = 0 then s.setChrRam (s.chrRam.write (chrOffset s.cfg s.mapper pa) v)
      else s := by
  simp only [State.ppuWrite, h, if_true, State.chrWrite, s.cfg.chrIsRam_iff]

/-- Only MMC1 banks CHR: the other boards see CHR space as it is (21_mappers.md R132, R158, R163). -/
theorem chrOffset_of_ne_mmc1 {c : CartConfig} (h : c.header.mapper ≠ .mmc1) (m : Mapper) (pa : BitVec 14) :
    chrOffset c m pa = pa.toNat % c.chrSize := by
  unfold chrOffset
  split
  · contradiction
  all_goals rfl

/-- Settles O42: a CPU read of ROM space and a PPU access of CHR space go through `prgOffset` and `chrOffset`, which are the mapper's
formulas board by board. -/
theorem bankedReads : Obligations.BankedReads := by
  intro s a pa v ha hpa
  have hread : ∀ off, prgOffset s.cfg s.mapper a = off → cpuRead a s = (s.cfg.prgRom.read off, s) := by
    rintro off rfl
    exact cpuRead_rom a s ha
  have hchr : ∀ off, chrOffset s.cfg s.mapper pa = off →
      s.ppuRead pa = (if s.cfg.header.chrUnits = 0 then s.chrRam.read off else s.cfg.chrRom.read off) ∧
      s.ppuWrite pa v = (if s.cfg.header.chrUnits = 0 then { s with chrRam := s.chrRam.write off v } else s) := by
    rintro off rfl
    exact ⟨ppuRead_chr s pa hpa, ppuWrite_chr s pa v hpa⟩
  have hplain : s.cfg.header.mapper ≠ .mmc1 → chrOffset s.cfg s.mapper pa =
      pa.toNat % (if s.cfg.header.chrUnits = 0 then 8192 else 8192 * s.cfg.header.chrUnits) := fun h => by
    rw [chrOffset_of_ne_mmc1 h, CartConfig.chrSize_eq]
  refine ⟨fun hnrom => ⟨hread _ ?_, hchr _ (hplain (by simp [hnrom]))⟩, fun hmmc1 => ⟨hread _ ?_, hchr _ ?_⟩,
    fun huxrom => ⟨hread _ ?_, hchr _ (hplain (by simp [huxrom]))⟩,
    fun haxrom => ⟨hread _ ?_, hchr _ (hplain (by simp [haxrom]))⟩⟩
  · simp only [prgOffset, hnrom, nromPrgOffset, CartConfig.prgSize]
  · simp only [prgOffset, hmmc1, mmc1PrgOffset_eq]
  · simp only [chrOffset, hmmc1, mmc1ChrOffset_eq, CartConfig.chrSize_eq]
  · simp only [prgOffset, huxrom, uxromPrgOffset_eq]
  · simp only [prgOffset, haxrom, axromPrgOffset_eq]

/-! The serial load register of MMC1 (21_mappers.md R141, R147). -/

/-- The MMC1 shift register after bit 0 of `v` has entered at the top. -/
def mmc1Shifted (shift : BitVec 5) (v : Byte) : BitVec 5 := BitVec.ofBool (v.getLsbD 0) ++ shift.extractLsb' 1 4

theorem toNat_mmc1Shifted (shift : BitVec 5) (v : Byte) :
    (mmc1Shifted shift v).toNat = shift.toNat / 2 + 16 * (v.toNat % 2) := by
  have hbit : (BitVec.ofBool (v.getLsbD 0)).toNat = v.toNat % 2 := by
    rw [BitVec.toNat_ofBool, BitVec.getLsbD, Nat.testBit_zero]
    rcases Nat.mod_two_eq_zero_or_one v.toNat with h | h <;> simp [h]
  have hlow : (shift.extractLsb' 1 4).toNat = shift.toNat / 2 := by
    have := shift.isLt
    rw [toNat_bitSlice]
    omega
  rw [mmc1Shifted, BitVec.toNat_append, ← Nat.shiftLeft_add_eq_or_of_lt (BitVec.isLt _), Nat.shiftLeft_eq, hbit, hlow]
  omega

theorem mmc1Shifted_eq_ofNat (shift : BitVec 5) (v : Byte) :
    mmc1Shifted shift v = BitVec.ofNat 5 (shift.toNat / 2 + 16 * (v.toNat % 2)) := by
  rw [← toNat_mmc1Shifted, BitVec.ofNat_toNat, BitVec.setWidth_eq]

/-- Five bits shifted in push the old five out; the first ends lowest. -/
theorem mmc1Shifted_five (shift : BitVec 5) (v1 v2 v3 v4 v5 : Byte) :
    mmc1Shifted (mmc1Shifted (mmc1Shifted (mmc1Shifted (mmc1Shifted shift v1) v2) v3) v4) v5 = BitVec.ofNat 5
      (v1.toNat % 2 + 2 * (v2.toNat % 2) + 4 * (v3.toNat % 2) + 8 * (v4.toNat % 2) + 16 * (v5.toNat % 2)) := by
  have hlt := shift.isLt
  apply BitVec.eq_of_toNat_eq
  simp only [toNat_mmc1Shifted, BitVec.toNat_ofNat]
  omega

theorem mmc1Mirroring_eq (control : BitVec 5) :
    mmc1Mirroring control =
      [Mirroring.oneScreenLow, .oneScreenHigh, .vertical, .horizontal].getD (control.toNat % 4) .horizontal := by
  have hmode : control.toNat % 4 < 4 := Nat.mod_lt _ (by decide)
  simp only [mmc1Mirroring, toNat_bitSlice, Nat.reducePow, Nat.div_one]
  generalize control.toNat % 4 = mode at hmode ⊢
  interval_cases mode <;> rfl

theorem Mapper.mmc1Load_eq (m : Mapper) (a : Addr) (value : BitVec 5) :
    m.mmc1Load a value = { m with
      mmc1Control := if a.toNat / 0x2000 % 4 = 0 then value else m.mmc1Control,
      mmc1Chr0 := if a.toNat / 0x2000 % 4 = 1 then value else m.mmc1Chr0,
      mmc1Chr1 := if a.toNat / 0x2000 % 4 = 2 then value else m.mmc1Chr1,
      mmc1Prg := if a.toNat / 0x2000 % 4 = 3 then value else m.mmc1Prg } := by
  have htarget : a.toNat / 0x2000 % 4 < 4 := Nat.mod_lt _ (by decide)
  simp only [Mapper.mmc1Load, toNat_bitSlice, Nat.reducePow]
  generalize a.toNat / 0x2000 % 4 = target at htarget ⊢
  interval_cases target <;> rfl

theorem getLsbD_seven_iff (v : Byte) : v.getLsbD 7 = true ↔ 128 ≤ v.toNat := by
  rw [← BitVec.msb_eq_getLsbD_last, BitVec.msb_eq_decide, decide_eq_true_iff]

/-- `m` with its serial register at `shift` and `count`, and the mirroring its control register selects: the form of every MMC1
write's result (R147). -/
def Mapper.withSerial (m : Mapper) (shift : BitVec 5) (count : BitVec 3) : Mapper :=
  { m with mmc1Shift := shift, mmc1Count := count, mirroring := mmc1Mirroring m.mmc1Control }

theorem Mapper.mmc1Write_eq (m : Mapper) (a : Addr) (v : Byte) :
    m.mmc1Write a v =
      if v.getLsbD 7 = true then { m with mmc1Control := m.mmc1Control ||| 0x0C#5 }.withSerial 0 0
      else if m.mmc1Count + 1 = 5 then (m.mmc1Load a (mmc1Shifted m.mmc1Shift v)).withSerial 0 0
      else m.withSerial (mmc1Shifted m.mmc1Shift v) (m.mmc1Count + 1) := by
  by_cases h7 : v.getLsbD 7 = true
  · simp only [Mapper.mmc1Write, h7, if_true, Mapper.withSerial]
  · by_cases h5 : m.mmc1Count + 1 = 5 <;>
      simp only [Mapper.mmc1Write, h7, h5, if_true, if_false, Bool.false_eq_true, Mapper.withSerial, mmc1Shifted]

theorem Mapper.mmc1Write_of_bit7 (m : Mapper) (a : Addr) {v : Byte} (hv : 128 ≤ v.toNat) :
    m.mmc1Write a v = { m with mmc1Control := m.mmc1Control ||| 0x0C#5 }.withSerial 0 0 := by
  rw [Mapper.mmc1Write_eq, if_pos ((getLsbD_seven_iff v).2 hv)]

theorem Mapper.mmc1Write_of_count_lt (m : Mapper) (a : Addr) {v : Byte} (hv : v.toNat < 128) (hc : m.mmc1Count.toNat < 4) :
    m.mmc1Write a v = m.withSerial (mmc1Shifted m.mmc1Shift v) (m.mmc1Count + 1) := by
  have h7 : ¬ v.getLsbD 7 = true := by rw [getLsbD_seven_iff]; omega
  have h5 : ¬ m.mmc1Count + 1 = 5 := by bv_omega
  rw [Mapper.mmc1Write_eq, if_neg h7, if_neg h5]

theorem Mapper.mmc1Write_of_count_eq (m : Mapper) (a : Addr) {v : Byte} (hv : v.toNat < 128) (hc : m.mmc1Count = 4) :
    m.mmc1Write a v = (m.mmc1Load a (mmc1Shifted m.mmc1Shift v)).withSerial 0 0 := by
  have h7 : ¬ v.getLsbD 7 = true := by rw [getLsbD_seven_iff]; omega
  have h5 : m.mmc1Count + 1 = 5 := by rw [hc]; rfl
  rw [Mapper.mmc1Write_eq, if_neg h7, if_pos h5]

/-- While bits are collected, a write goes on from the serial register alone. -/
theorem Mapper.withSerial_mmc1Write (m : Mapper) (shift : BitVec 5) (count : BitVec 3) (hc : count.toNat < 4) (a : Addr)
    {v : Byte} (hv : v.toNat < 128) :
    (m.withSerial shift count).mmc1Write a v = m.withSerial (mmc1Shifted shift v) (count + 1) :=
  (m.withSerial shift count).mmc1Write_of_count_lt a hv hc

/-- The write after the fourth loads the register its address selects and empties the serial register. -/
theorem Mapper.withSerial_mmc1Write_load (m : Mapper) (shift : BitVec 5) (a : Addr) {v : Byte} (hv : v.toNat < 128) :
    (m.withSerial shift 4).mmc1Write a v = (m.mmc1Load a (mmc1Shifted shift v)).withSerial 0 0 := by
  rw [(m.withSerial shift 4).mmc1Write_of_count_eq a hv rfl, Mapper.mmc1Load_eq, Mapper.mmc1Load_eq]
  rfl

/-- Five writes to an empty serial register load their low bits, first bit lowest, where the fifth address selects. -/
theorem Mapper.mmc1Write_five (m : Mapper) (a1 a2 a3 a4 a5 : Addr) {v1 v2 v3 v4 v5 : Byte} (hc : m.mmc1Count = 0)
    (h1 : v1.toNat < 128) (h2 : v2.toNat < 128) (h3 : v3.toNat < 128) (h4 : v4.toNat < 128) (h5 : v5.toNat < 128) :
    ((((m.mmc1Write a1 v1).mmc1Write a2 v2).mmc1Write a3 v3).mmc1Write a4 v4).mmc1Write a5 v5 =
      (m.mmc1Load a5 (BitVec.ofNat 5
        (v1.toNat % 2 + 2 * (v2.toNat % 2) + 4 * (v3.toNat % 2) + 8 * (v4.toNat % 2) + 16 * (v5.toNat % 2)))).withSerial 0 0 := by
  rw [m.mmc1Write_of_count_lt a1 h1 (by rw [hc]; decide), hc, m.withSerial_mmc1Write _ _ (by decide) a2 h2,
    m.withSerial_mmc1Write _ _ (by decide) a3 h3, m.withSerial_mmc1Write _ _ (by decide) a4 h4,
    ← mmc1Shifted_five m.mmc1Shift v1 v2 v3 v4 v5]
  exact m.withSerial_mmc1Write_load _ a5 h5

/-- A write of ROM space on MMC1 is a write of the mapper, and of nothing else. -/
theorem cpuWrite_mmc1 {s : State} (hm : s.cfg.header.mapper = .mmc1) {a : Addr} (ha : 0x8000 ≤ a.toNat) (v : Byte) :
    cpuWrite a v s = s.setMapper (s.mapper.mmc1Write a v) := by
  simp only [cpuWrite, cpuTarget_rom a ha, State.romWrite, hm]

theorem cpuWrite_setMapper_mmc1 {s : State} (hm : s.cfg.header.mapper = .mmc1) {a : Addr} (ha : 0x8000 ≤ a.toNat) (v : Byte)
    (m : Mapper) : cpuWrite a v (s.setMapper m) = s.setMapper (m.mmc1Write a v) :=
  cpuWrite_mmc1 (s := s.setMapper m) hm ha v

theorem State.mirroring_setMapper_mmc1 {s : State} (hm : s.cfg.header.mapper = .mmc1) (m : Mapper) :
    (s.setMapper m).mirroring = mmc1Mirroring m.mmc1Control := by
  simp only [State.mirroring, State.setMapper_cfg, State.setMapper_mapper, hm]

theorem State.setMapper_withSerial {s : State} (hm : s.cfg.header.mapper = .mmc1) (m : Mapper) (shift : BitVec 5)
    (count : BitVec 3) :
    s.setMapper (m.withSerial shift count) = { s with mapper := { m with
      mmc1Shift := shift, mmc1Count := count, mirroring := (s.setMapper (m.withSerial shift count)).mirroring } } := by
  rw [State.mirroring_setMapper_mmc1 hm]
  rfl

/-- Settles O43: one write by the three cases of `mmc1Write`; five writes by the serial register they leave one after another. -/
theorem mmc1SerialLoad : Obligations.Mmc1SerialLoad := by
  intro s a1 a2 a3 a4 a5 v1 v2 v3 v4 v5 hm ha1 ha2 ha3 ha4 ha5
  refine ⟨fun hc h1 h2 h3 h4 h5 => ?_, ?_⟩
  · rw [cpuWrite_mmc1 hm ha1, cpuWrite_setMapper_mmc1 hm ha2, cpuWrite_setMapper_mmc1 hm ha3, cpuWrite_setMapper_mmc1 hm ha4,
      cpuWrite_setMapper_mmc1 hm ha5, s.mapper.mmc1Write_five a1 a2 a3 a4 a5 hc h1 h2 h3 h4 h5, Mapper.mmc1Load_eq]
    intro t value target
    have hmir : t.mirroring = mmc1Mirroring t.mapper.mmc1Control := State.mirroring_setMapper_mmc1 hm _
    exact ⟨rfl, congrArg State.mapper (State.setMapper_withSerial hm _ 0 0), hmir.trans (mmc1Mirroring_eq _)⟩
  · rw [cpuWrite_mmc1 hm ha1]
    intro u value target
    have hmir : u.mirroring = mmc1Mirroring u.mapper.mmc1Control := State.mirroring_setMapper_mmc1 hm _
    refine ⟨hmir.symm, hmir.trans (mmc1Mirroring_eq _), fun hv => ?_, fun hv hc => ?_, fun hv hc => ?_⟩
    · have hu : u = s.setMapper _ := congrArg s.setMapper (s.mapper.mmc1Write_of_bit7 a1 hv)
      rw [hu]
      exact State.setMapper_withSerial hm _ 0 0
    · have hcount : s.mapper.mmc1Count + 1 = BitVec.ofNat 3 (s.mapper.mmc1Count.toNat + 1) := by bv_omega
      have hu : u = s.setMapper _ := congrArg s.setMapper (s.mapper.mmc1Write_of_count_lt a1 hv hc)
      rw [hu, hcount, mmc1Shifted_eq_ofNat]
      exact State.setMapper_withSerial hm _ _ _
    · have hu : u = s.setMapper _ := congrArg s.setMapper (s.mapper.mmc1Write_of_count_eq a1 hv hc)
      rw [hu, mmc1Shifted_eq_ofNat, Mapper.mmc1Load_eq]
      exact State.setMapper_withSerial hm _ 0 0

end Sys2Proof.Machine
end

section
/-! SUPPORT. The proofs of the statements about the opcode table (30_encoding.md R170 to R178): what a decoded instruction tells of
its bytes, the length of each mode, and the opcode map. -/

namespace Sys2Proof

open Sys2Proof.Machine

/-- The instruction a row builds has the row's mnemonic and mode, whatever the operand bytes. -/
def OpcodeRow.BuildsItsOwn (r : OpcodeRow) : Prop :=
  ∀ b1 b2, (r.build b1 b2).mnemonic = r.mnemonic ∧ (r.build b1 b2).operand.mode = r.mode

theorem opcodeTable_buildsItsOwn : ∀ r ∈ opcodeTable, r.BuildsItsOwn := by
  rw [← List.forall_iff_forall_mem]
  repeat' apply And.intro
  all_goals exact fun _ _ => ⟨rfl, rfl⟩

theorem lookupOpcode_buildsItsOwn {op : Byte} {r : OpcodeRow} (h : lookupOpcode op = some r) : r.BuildsItsOwn :=
  opcodeTable_buildsItsOwn r (List.mem_of_find?_eq_some h)

/-- Whatever decodes has a row, which builds the instruction from as many operand bytes as its mode has (R170, R173, R175). -/
theorem decode_cons_ok {op : Byte} {rest tail : List Byte} {i : Instr} (h : decode (op :: rest) = .ok (i, tail)) :
    ∃ r, lookupOpcode op = some r ∧
      ((r.mode.length = 1 ∧ i = r.build 0 0 ∧ tail = rest) ∨
        (r.mode.length = 2 ∧ ∃ b1, i = r.build b1 0 ∧ rest = b1 :: tail) ∨
        (r.mode.length = 3 ∧ ∃ b1 b2, i = r.build b1 b2 ∧ rest = b1 :: b2 :: tail)) := by
  simp only [decode] at h
  split at h
  next => cases h
  next r hr =>
    refine ⟨r, hr, ?_⟩
    split at h
    next hlen => cases h; exact .inl ⟨hlen, rfl, rfl⟩
    next hlen => cases h; exact .inr (.inl ⟨hlen, _, rfl, rfl⟩)
    next hlen => cases h; exact .inr (.inr ⟨hlen, _, _, rfl, rfl⟩)
    next => cases h

/-- A decoded instruction has the mnemonic and mode of the row of its first byte, and takes the length of that mode. -/
theorem decode_cons_row {op : Byte} {rest tail : List Byte} {i : Instr} (h : decode (op :: rest) = .ok (i, tail)) :
    ∃ r, lookupOpcode op = some r ∧ i.mnemonic = r.mnemonic ∧ i.operand.mode = r.mode ∧
      rest.length + 1 = r.mode.length + tail.length := by
  obtain ⟨r, hr, hbytes⟩ := decode_cons_ok h
  obtain ⟨b1, b2, rfl, hlen⟩ : ∃ b1 b2, i = r.build b1 b2 ∧ rest.length + 1 = r.mode.length + tail.length := by
    obtain ⟨hlen, rfl, rfl⟩ | ⟨hlen, b1, rfl, rfl⟩ | ⟨hlen, b1, b2, rfl, rfl⟩ := hbytes
    all_goals exact ⟨_, _, rfl, by simp only [hlen, List.length_cons]; omega⟩
  obtain ⟨hmnemonic, hmode⟩ := lookupOpcode_buildsItsOwn hr b1 b2
  exact ⟨r, hr, hmnemonic, hmode, hlen⟩

theorem opcodeTable_nodup : (opcodeTable.map OpcodeRow.opcode).Nodup := by decide +kernel

/-- Settles O4: the lengths and the rows by the table itself; a decoded instruction by the row of its first byte. -/
theorem modeLengths : Obligations.ModeLengths := by
  refine ⟨by decide, rfl, opcodeTable_nodup, fun op rest i tail h => ?_⟩
  obtain ⟨r, hr, -, hmode, hlen⟩ := decode_cons_row h
  rw [opcodeLength, hr, hmode]
  exact ⟨hlen, rfl⟩

/-! The opcode map (R176). -/

/-- The table of R178 and the printed map of R176 agree on every byte. -/
theorem lookupOpcode_eq_opcodeGrid (op : Byte) : (lookupOpcode op).map (fun r => (r.mnemonic, r.mode)) = opcodeGrid op := by
  have h : ∀ n : Fin 256, (lookupOpcode (BitVec.ofFin n)).map (fun r => (r.mnemonic, r.mode)) = opcodeGrid (BitVec.ofFin n) := by
    decide +kernel
  exact h op.toFin

theorem opcodeGrid_opcode (i : Instr) : opcodeGrid i.opcode = some (i.mnemonic, i.operand.mode) := by
  cases i <;> simp only [Instr.opcode, Instr.mnemonic, Instr.operand, Operand.mode] <;> rfl

/-- Settles O5: the table against the map byte by byte; a decoded instruction by the row of its first byte; the encoder by
instruction. -/
theorem opcodeGridAgrees : Obligations.OpcodeGrid := by
  refine ⟨lookupOpcode_eq_opcodeGrid, fun op b1 b2 i rest h => ?_, opcodeGrid_opcode⟩
  obtain ⟨r, hr, hmnemonic, hmode, -⟩ := decode_cons_row h
  rw [← lookupOpcode_eq_opcodeGrid, hr, hmnemonic, hmode, Option.map_some]

/-- Where the map uses the modes few instructions have: Zeropage-Y, Relative and Indirect (R187, R191, R194). -/
theorem opcodeGrid_rareModes (op : Byte) : ∀ e ∈ opcodeGrid op,
    (e.2 = .zpy → e.1 = .ldx ∨ e.1 = .stx) ∧ (e.2 = .rel ↔ e.1 ∈ [.bpl, .bmi, .bvc, .bvs, .bcc, .bcs, .bne, .beq]) ∧
    (e.2 = .ind → e.1 = .jmp) := by
  have h : ∀ n : Fin 256, ∀ e ∈ opcodeGrid (BitVec.ofFin n), (e.2 = .zpy → e.1 = .ldx ∨ e.1 = .stx) ∧
      (e.2 = .rel ↔ e.1 ∈ [.bpl, .bmi, .bvc, .bvs, .bcc, .bcs, .bne, .beq]) ∧ (e.2 = .ind → e.1 = .jmp) := by
    decide +kernel
  exact h op.toFin

theorem Instr.rareModes (i : Instr) :
    (i.operand.mode = .zpy → i.mnemonic = .ldx ∨ i.mnemonic = .stx) ∧
    (i.operand.mode = .rel ↔ i.mnemonic ∈ [.bpl, .bmi, .bvc, .bvs, .bcc, .bcs, .bne, .beq]) ∧
    (i.operand.mode = .ind → i.mnemonic = .jmp) :=
  opcodeGrid_rareModes i.opcode _ (opcodeGrid_opcode i)

end Sys2Proof
end

section
/-! SUPPORT. The proofs of the statements about the address computations (30_encoding.md R182 to R194): addresses in whole numbers, and
what an Implied instruction leaves alone. -/

namespace Sys2Proof.Machine

/-! Addresses in whole numbers. -/

theorem toNat_append_byte (hi lo : Byte) : (hi ++ lo : Addr).toNat = 256 * hi.toNat + lo.toNat := by
  rw [BitVec.toNat_append, ← Nat.shiftLeft_add_eq_or_of_lt lo.isLt, Nat.shiftLeft_eq, Nat.mul_comm]

theorem toNat_operandWord (b1 b2 : Byte) : (operandWord b1 b2).toNat = 256 * b2.toNat + b1.toNat := toNat_append_byte b2 b1

theorem toNat_zeroExtend_byte (z : Byte) : (z.zeroExtend 16).toNat = z.toNat :=
  BitVec.toNat_setWidth_of_le (by decide)

theorem toNat_add_zeroExtend_byte (a : Addr) (z : Byte) : (a + z.zeroExtend 16).toNat = (a.toNat + z.toNat) % 65536 := by
  rw [BitVec.toNat_add, toNat_zeroExtend_byte]

/-- A branch target: the offset counts from the next instruction, modulo 65536, whatever its size (R194). -/
theorem toNat_branchTarget (pc : Addr) (d : Int) :
    ((pc + 2 + BitVec.ofInt 16 d).toNat : Int) = (pc.toNat + 2 + d) % 65536 := by
  rw [BitVec.toNat_add, BitVec.toNat_add, BitVec.toNat_ofInt, show (2 : Addr).toNat = 2 from rfl]
  omega

theorem pageDiffers_eq (a b : Addr) : pageDiffers a b = decide (a.toNat / 256 ≠ b.toNat / 256) := by
  have hhigh : ∀ x : Addr, (x.extractLsb' 8 8).toNat = x.toNat / 256 := fun x => by
    rw [toNat_bitSlice]
    omega
  rw [pageDiffers, Bool.eq_iff_iff, bne_iff_ne, decide_eq_true_iff, ne_eq, ne_eq, ← BitVec.toNat_inj, hhigh, hhigh]

/-- The pages of an address built from two bytes and of another differ when the high byte is not the other's (R189, R190, R193). -/
theorem pageDiffers_append_byte (hi lo : Byte) (ea : Addr) :
    pageDiffers (hi ++ lo) ea = decide (hi.toNat ≠ ea.toNat / 256) := by
  rw [pageDiffers_eq, toNat_append_byte, show (256 * hi.toNat + lo.toNat) / 256 = hi.toNat by omega]

/-- The high pointer byte of an indirect JMP stays in the page of the low one (R191). -/
theorem toNat_pointerHighAddr (b1 b2 : Byte) :
    (pointerHighAddr (operandWord b1 b2)).toNat = 256 * b2.toNat + (b1.toNat + 1) % 256 := by
  have hnext : operandWord b1 b2 + 1 = BitVec.ofNat 8 ((256 * b2.toNat + b1.toNat + 1) / 256) ++ (b1 + 1) := by
    apply BitVec.eq_of_toNat_eq
    rw [BitVec.toNat_add, toNat_operandWord, toNat_append_byte, BitVec.toNat_add, BitVec.toNat_ofNat]
    show (_ + 1) % 65536 = _ + (_ + 1) % 256
    omega
  have hmask (hi lo hi' lo' : Byte) : ((hi ++ lo : Addr) &&& 0xFF00) ||| ((hi' ++ lo' : Addr) &&& 0x00FF) = hi ++ lo' := by
    rw [show (0xFF00 : Addr) = BitVec.allOnes 8 ++ 0#8 from rfl, show (0x00FF : Addr) = 0#8 ++ BitVec.allOnes 8 from rfl]
    simp only [BitVec.and_append, BitVec.or_append, BitVec.and_allOnes, BitVec.and_zero, BitVec.or_zero, BitVec.zero_or]
  have h : pointerHighAddr (operandWord b1 b2) = operandWord (b1 + 1) b2 := by
    rw [pointerHighAddr, hnext]
    exact hmask b2 b1 _ _
  rw [h, toNat_operandWord, BitVec.toNat_add]
  rfl

/-! What an Implied instruction leaves alone (R182). -/

/-- `t` differs from `s` in the registers and in the stack page of internal RAM, at most. -/
def StackPageOnly (s t : State) : Prop :=
  t.withRegisters s.cpu = { s with ram := t.ram } ∧ ∀ k, k < 256 ∨ 512 ≤ k → t.ram.read k = s.ram.read k

theorem StackPageOnly.of_registers {s t : State} (h : t.withRegisters s.cpu = s) : StackPageOnly s t := by
  have hram : (t.withRegisters s.cpu).ram = s.ram := congrArg State.ram h
  have hs : s = { s with ram := (t.withRegisters s.cpu).ram } := by rw [hram]
  exact ⟨h.trans hs, fun k _ => congrArg (Memory.read · k) hram⟩

theorem StackPageOnly.trans {s t u : State} (h : StackPageOnly s t) (h' : StackPageOnly t u) : StackPageOnly s u := by
  obtain ⟨hregs, hram⟩ := h
  obtain ⟨hregs', hram'⟩ := h'
  refine ⟨?_, fun k hk => (hram' k hk).trans (hram k hk)⟩
  calc u.withRegisters s.cpu = (u.withRegisters t.cpu).withRegisters s.cpu := rfl
    _ = { t.withRegisters s.cpu with ram := u.ram } := by rw [hregs']; rfl
    _ = { s with ram := u.ram } := by rw [hregs]

theorem StackPageOnly.setPc {s t : State} (h : StackPageOnly s t) (a : Addr) : StackPageOnly s (t.setPc a) :=
  h.trans (.of_registers rfl)

theorem StackPageOnly.setCountdown {s t : State} (h : StackPageOnly s t) (n : Nat) : StackPageOnly s (t.setCountdown n) :=
  h.trans (.of_registers rfl)

/-- A byte stored through the stack pointer is in the stack page. -/
theorem read_write_stackPage (m : Memory) (sp v : Byte) {k : Nat} (hk : k < 256 ∨ 512 ≤ k) :
    (m.write (256 + sp.toNat) v).read k = m.read k := by
  rw [Memory.read_write, if_neg (by omega)]

theorem push_stackPageOnly (v : Byte) (s : State) : StackPageOnly s (push v s) := by
  rw [push_eq]
  exact ⟨rfl, fun k hk => read_write_stackPage _ _ _ hk⟩

theorem pull_stackPageOnly (s : State) : StackPageOnly s (pull s).2 := by
  rw [pull_eq]
  exact .of_registers rfl

theorem pullAddr_stackPageOnly (s : State) : StackPageOnly s (pullAddr s).2 := by
  rw [pullAddr_eq]
  exact .of_registers rfl

theorem returnFromInterrupt_stackPageOnly (s : State) : StackPageOnly s (returnFromInterrupt s) := by
  rw [returnFromInterrupt_eq]
  exact .of_registers rfl

theorem takeInterrupt_stackPageOnly (ret : Addr) (brk : Bool) (vector : Addr) (s : State) (h : 0x8000 ≤ vector.toNat)
    (h' : 0x8000 ≤ (vector + 1).toNat) : StackPageOnly s (takeInterrupt ret brk vector s) := by
  rw [takeInterrupt_eq ret brk vector s h h']
  exact ⟨rfl, fun k hk => by simp only [read_write_stackPage _ _ _ hk]⟩

theorem address_imp_stackPageOnly (s : State) : StackPageOnly s (address .imp s) := .of_registers rfl

theorem impliedInstr_stackPageOnly {base : Nat} {f : State → State} {s t : State} (h : impliedInstr base f s = .next t)
    (hf : ∀ u, StackPageOnly u (f u)) : StackPageOnly s t := by
  cases h
  exact (((address_imp_stackPageOnly s).trans (hf _)).setPc _).setCountdown _

/-- Every Implied instruction changes registers and the stack page only. -/
theorem exec_implied_stackPageOnly {i : Instr} {s t : State} (hi : i.operand = .imp) (h : exec i s = .next t) :
    StackPageOnly s t := by
  have haddress := address_imp_stackPageOnly s
  cases i with
  | tax | tay | txa | tya | tsx | txs | inx | iny | dex | dey | clc | sec | cli | sei | clv | cld | sed | nop =>
    simp only [exec, execTax, execTay, execTxa, execTya, execTsx, execTxs, execInx, execIny, execDex, execDey, execClc, execSec,
      execCli, execSei, execClv, execCld, execSed, execNop] at h
    exact impliedInstr_stackPageOnly h fun _ => .of_registers rfl
  | pha | php =>
    simp only [exec, execPha, execPhp] at h
    exact impliedInstr_stackPageOnly h fun _ => push_stackPageOnly _ _
  | pla | plp =>
    simp only [exec, execPla, execPlp] at h
    exact impliedInstr_stackPageOnly h fun u => (pull_stackPageOnly u).trans (.of_registers rfl)
  | rts =>
    cases h
    exact ((haddress.trans (pullAddr_stackPageOnly _)).setPc _).setCountdown 6
  | rti =>
    cases h
    exact (haddress.trans (returnFromInterrupt_stackPageOnly _)).setCountdown 6
  | brk =>
    cases h
    exact (haddress.trans (takeInterrupt_stackPageOnly _ true brkVector _ (by decide) (by decide))).setCountdown 7
  | _ => cases hi

/-! The modes that read no pointer (R184 to R190, R194), and those that do (R191 to R193). -/

theorem address_absx (b1 b2 : Byte) (s : State) :
    let ea := operandWord b1 b2 + s.cpu.x.zeroExtend 16
    address (.absx (operandWord b1 b2)) s = s.latch .absx ea (decide (b2.toNat ≠ ea.toNat / 256)) := by
  intro ea
  rw [← pageDiffers_append_byte b2 b1]
  rfl

theorem address_absy (b1 b2 : Byte) (s : State) :
    let ea := operandWord b1 b2 + s.cpu.y.zeroExtend 16
    address (.absy (operandWord b1 b2)) s = s.latch .absy ea (decide (b2.toNat ≠ ea.toNat / 256)) := by
  intro ea
  rw [← pageDiffers_append_byte b2 b1]
  rfl

theorem address_rel (d : Int) (s : State) :
    let ea := s.cpu.pc + 2 + BitVec.ofInt 16 d
    address (.rel d) s = s.latch .rel ea (decide ((s.cpu.pc.toNat + 2) % 65536 / 256 ≠ ea.toNat / 256)) := by
  intro ea
  have hnext : (s.cpu.pc + 2).toNat = (s.cpu.pc.toNat + 2) % 65536 := BitVec.toNat_add _ _
  rw [← hnext, ← pageDiffers_eq]
  rfl

/-- The index Y of (Indirect),Y is the one from before the pointer reads, which change no register (R193). -/
theorem address_indy (z : Byte) (s : State) :
    let lo := cpuRead (z.zeroExtend 16) s
    let hi := cpuRead ((z + 1).zeroExtend 16) lo.2
    let ea := (hi.1 ++ lo.1 : Addr) + s.cpu.y.zeroExtend 16
    address (.indy z) s = hi.2.latch .indy ea (decide (hi.1.toNat ≠ ea.toNat / 256)) := by
  intro lo hi ea
  have hy : hi.2.cpu.y = s.cpu.y := by
    rw [((cpuRead_readsOnly _ s).trans (cpuRead_readsOnly _ lo.2)).cpu]
  rw [← pageDiffers_append_byte hi.1 lo.1]
  simp only [ea, ← hy]
  rfl

theorem toNat_zeroPageIndexed (z x : Byte) : ((z + x).zeroExtend 16).toNat = (z.toNat + x.toNat) % 256 := by
  rw [toNat_zeroExtend_byte, BitVec.toNat_add]

theorem toNat_absoluteIndexed (b1 b2 x : Byte) :
    (operandWord b1 b2 + x.zeroExtend 16).toNat = (256 * b2.toNat + b1.toNat + x.toNat) % 65536 := by
  rw [toNat_add_zeroExtend_byte, toNat_operandWord]

/-- Settles O8: each mode's latch by its equation, its address in whole numbers; an Implied instruction by its shape; the modes few
instructions have by the opcode map. -/
theorem addressModes : Obligations.AddressModes := by
  intro s b1 b2 d
  have hrare (i : Instr) : (i.operand.mode = .zpy → i.mnemonic = .ldx ∨ i.mnemonic = .stx) ∧
      (i.operand.mode = .rel ↔ i.mnemonic ∈ [.bpl, .bmi, .bvc, .bvs, .bcc, .bcs, .bne, .beq]) := by
    obtain ⟨hzpy, hrel, -⟩ := i.rareModes
    exact ⟨hzpy, hrel⟩
  exact ⟨⟨_, rfl⟩, fun i t hi h => exec_implied_stackPageOnly hi h, ⟨_, rfl⟩, rfl, rfl,
    ⟨_, rfl, BitVec.toNat_add s.cpu.pc 1⟩, rfl,
    ⟨_, rfl, toNat_zeroExtend_byte b1⟩,
    ⟨_, rfl, toNat_zeroPageIndexed b1 s.cpu.x⟩,
    ⟨_, rfl, toNat_zeroPageIndexed b1 s.cpu.y⟩,
    ⟨_, rfl, toNat_operandWord b1 b2⟩,
    ⟨_, address_absx b1 b2 s, toNat_absoluteIndexed b1 b2 s.cpu.x⟩,
    ⟨_, address_absy b1 b2 s, toNat_absoluteIndexed b1 b2 s.cpu.y⟩,
    ⟨_, address_rel d s, toNat_branchTarget s.cpu.pc d⟩,
    hrare⟩

/-- Settles O9: the model's pointer reads, their addresses in whole numbers; (Indirect),Y by `address_indy`; JMP's mode by the opcode
map. -/
theorem pointerModes : Obligations.PointerModes := by
  intro s b1 b2
  have hnext : ∀ z : Byte, ((z + 1).zeroExtend 16).toNat = (z.toNat + 1) % 256 := fun z => toNat_zeroPageIndexed z 1
  have hnextX : ((b1 + s.cpu.x + 1).zeroExtend 16).toNat = (b1.toNat + s.cpu.x.toNat + 1) % 256 := by
    rw [hnext, BitVec.toNat_add, Nat.mod_add_mod]
  refine ⟨⟨_, _, toNat_pointerHighAddr b1 b2, rfl, toNat_append_byte _ _⟩,
    ⟨_, _, _, toNat_zeroPageIndexed b1 s.cpu.x, hnextX, rfl, toNat_append_byte _ _⟩,
    ⟨_, _, _, toNat_zeroExtend_byte b1, hnext b1, address_indy b1 s, ?_⟩, fun i => ?_⟩
  · rw [toNat_add_zeroExtend_byte, toNat_append_byte]
  · obtain ⟨-, -, hind⟩ := i.rareModes
    exact hind

end Sys2Proof.Machine
end

section
/-! SUPPORT. The proofs of the statements about the loads and stores (40_load_store.md): the shapes of instruction that end by
`State.finished`, and the loads and stores in those shapes. -/

namespace Sys2Proof.Machine

/-! The shapes in the costs of the regular pattern (30_encoding.md R195, R196). -/

/-- A register-reading instruction at its own operand, at its regular cost and with the page-crossing mark of its own opcode:
its effect on the state after the data read, and the common end. -/
theorem readInstr_finished (i : Instr) (f : State → Byte → State) (s : State) (hf : ∀ t v, (f t v).cpu.pc = t.cpu.pc) :
    readInstr i.operand (regularCost i.mnemonic i.operand.mode) (decide (i.opcode ∈ pageCrossOpcodes)) f s =
      .next ((f (dataRead i.operand s).2 (dataRead i.operand s).1).finished i s) := by
  rw [readInstr_eq _ _ _ _ _ hf]
  simp only [State.finished, expectedCost, Instr.length, Bool.and_eq_true, decide_eq_true_eq, and_comm]

/-- A store at its own operand and at its regular cost, where no crossed page costs more: one bus write, and the common end. -/
theorem storeInstr_finished (i : Instr) (reg : Cpu → Byte) (s : State) (hr : reg (address i.operand s).cpu = reg s.cpu)
    (hcross : i.opcode ∉ pageCrossOpcodes) :
    storeInstr i.operand (regularCost i.mnemonic i.operand.mode) reg s =
      .next ((cpuWrite (address i.operand s).cpu.ea (reg s.cpu) (address i.operand s)).finished i s) := by
  rw [storeInstr_eq _ _ _ _ hr]
  simp only [State.finished, expectedCost, Instr.length, hcross, and_false, if_false, Nat.add_zero]

/-! Each load and store in its shape: one equation for all the rows of a mnemonic (R202 to R207). -/

theorem exec_lda {i : Instr} (h : i.mnemonic = .lda) (s : State) :
    exec i s = readInstr i.operand (regularCost i.mnemonic i.operand.mode) (decide (i.opcode ∈ pageCrossOpcodes)) loadA s := by
  cases i with
  | ldaImm | ldaZp | ldaZpX | ldaAbs | ldaAbsX | ldaAbsY | ldaIndX | ldaIndY => rfl
  | _ => cases h

theorem exec_ldx {i : Instr} (h : i.mnemonic = .ldx) (s : State) :
    exec i s = readInstr i.operand (regularCost i.mnemonic i.operand.mode) (decide (i.opcode ∈ pageCrossOpcodes)) loadX s := by
  cases i with
  | ldxImm | ldxZp | ldxZpY | ldxAbs | ldxAbsY => rfl
  | _ => cases h

theorem exec_ldy {i : Instr} (h : i.mnemonic = .ldy) (s : State) :
    exec i s = readInstr i.operand (regularCost i.mnemonic i.operand.mode) (decide (i.opcode ∈ pageCrossOpcodes)) loadY s := by
  cases i with
  | ldyImm | ldyZp | ldyZpX | ldyAbs | ldyAbsX => rfl
  | _ => cases h

theorem exec_sta {i : Instr} (h : i.mnemonic = .sta) (s : State) :
    exec i s = storeInstr i.operand (regularCost i.mnemonic i.operand.mode) Cpu.a s := by
  cases i with
  | staZp | staZpX | staAbs | staAbsX | staAbsY | staIndX | staIndY => rfl
  | _ => cases h

theorem exec_stx {i : Instr} (h : i.mnemonic = .stx) (s : State) :
    exec i s = storeInstr i.operand (regularCost i.mnemonic i.operand.mode) Cpu.x s := by
  cases i with
  | stxZp | stxZpY | stxAbs => rfl
  | _ => cases h

theorem exec_sty {i : Instr} (h : i.mnemonic = .sty) (s : State) :
    exec i s = storeInstr i.operand (regularCost i.mnemonic i.operand.mode) Cpu.y s := by
  cases i with
  | styZp | styZpX | styAbs => rfl
  | _ => cases h

/-- No store is marked `+p` (30_encoding.md R195). -/
theorem store_notMem_pageCrossOpcodes {i : Instr} (h : i.mnemonic ∈ [.sta, .stx, .sty]) : i.opcode ∉ pageCrossOpcodes := by
  cases i with
  | staZp | staZpX | staAbs | staAbsX | staAbsY | staIndX | staIndY | stxZp | stxZpY | stxAbs | styZp | styZpX | styAbs =>
    simp only [Instr.opcode]
    decide
  | _ => simp [Instr.mnemonic] at h

theorem loadA_eq (t : State) (v : Byte) : loadA t v = { t with cpu := { t.cpu with a := v, p := t.cpu.p.znOf v } } := by
  simp only [← Flags.setZN_eq_znOf]
  rfl

theorem loadX_eq (t : State) (v : Byte) : loadX t v = { t with cpu := { t.cpu with x := v, p := t.cpu.p.znOf v } } := by
  simp only [← Flags.setZN_eq_znOf]
  rfl

theorem loadY_eq (t : State) (v : Byte) : loadY t v = { t with cpu := { t.cpu with y := v, p := t.cpu.p.znOf v } } := by
  simp only [← Flags.setZN_eq_znOf]
  rfl

/-- Settles O14: each mnemonic by its shape; the address computation and the data read keep the flags and the registers stored. -/
theorem loadsAndStores : Obligations.LoadsAndStores := by
  intro i s r p s1
  have hp : r.2.cpu.p = s.cpu.p := (dataRead_latchedReads i.operand s).p
  have hs1 : LatchedReads s s1 := address_latchedReads i.operand s
  refine ⟨fun h => ?_, fun h => ?_, fun h => ?_, fun h => ?_, fun h => ?_, fun h => ?_⟩
  · rw [exec_lda h, readInstr_finished i loadA s fun _ _ => rfl, loadA_eq, hp]
  · rw [exec_ldx h, readInstr_finished i loadX s fun _ _ => rfl, loadX_eq, hp]
  · rw [exec_ldy h, readInstr_finished i loadY s fun _ _ => rfl, loadY_eq, hp]
  · exact (exec_sta h s).trans (storeInstr_finished i Cpu.a s hs1.a (store_notMem_pageCrossOpcodes (by simp [h])))
  · exact (exec_stx h s).trans (storeInstr_finished i Cpu.x s hs1.x (store_notMem_pageCrossOpcodes (by simp [h])))
  · exact (exec_sty h s).trans (storeInstr_finished i Cpu.y s hs1.y (store_notMem_pageCrossOpcodes (by simp [h])))

end Sys2Proof.Machine
end

section
/-! SUPPORT. The proofs of the statements about the register transfers, the counts of X and Y and the stack instructions
(41_transfer_stack.md; 43_shift_incdec.md R268 to R271): the Implied instructions that end by `State.finished`, and the stack and the
flag byte in whole numbers. -/

namespace Sys2Proof.Machine

/-- An Implied instruction at its regular cost: its effect after the address computation, and the common end. No page is crossed. -/
theorem impliedInstr_finished (i : Instr) (f : State → State) (s : State) (hi : i.operand = .imp)
    (hf : ∀ t, (f t).cpu.pc = t.cpu.pc) :
    impliedInstr (regularCost i.mnemonic i.operand.mode) f s = .next ((f (address .imp s)).finished i s) := by
  have hlength : i.length = 1 := congrArg Operand.length hi
  have hcost : expectedCost i (address i.operand s).cpu.pageCrossed = regularCost i.mnemonic i.operand.mode := by
    simp [expectedCost, hi, address]
  have hpc : (f (address .imp s)).cpu.pc = s.cpu.pc := (hf _).trans (address_latchedReads .imp s).pc
  simp only [impliedInstr, retire, State.setPc, State.setCountdown, State.finished, hlength, hcost, hpc]

/-! Bytes in whole numbers. -/

theorem byte_add_one_eq_ofNat (v : Byte) : v + 1 = BitVec.ofNat 8 (v.toNat + 1) :=
  BitVec.eq_of_toNat_eq (by simp [BitVec.toNat_add])

theorem byte_sub_one_eq_ofNat (v : Byte) : v - 1 = BitVec.ofNat 8 (v.toNat + 255) :=
  BitVec.eq_of_toNat_eq (by simp [BitVec.toNat_sub, Nat.add_comm])

/-! The transfers and the counts (41_transfer_stack.md R222 to R227; 43_shift_incdec.md R268 to R271). -/

/-- Settles O15: each transfer and count is an Implied load of A, X or Y with a byte of the registers; TXS sets no flag. -/
theorem transfersAndCounts : Obligations.TransfersAndCounts := by
  intro s s1 p up down
  have hp : s1.cpu.p = p := (address_latchedReads .imp s).p
  have hup (v : Byte) : up v = v + 1 := (byte_add_one_eq_ofNat v).symm
  have hdown (v : Byte) : down v = v - 1 := (byte_sub_one_eq_ofNat v).symm
  simp only [hup, hdown, ← hp, ← loadA_eq, ← loadX_eq, ← loadY_eq]
  refine ⟨?tax, ?tay, ?txa, ?tya, ?tsx, ?txs, ?inx, ?iny, ?dex, ?dey⟩
  case tax => exact impliedInstr_finished .tax (fun t => loadX t t.cpu.a) s rfl fun _ => rfl
  case tay => exact impliedInstr_finished .tay (fun t => loadY t t.cpu.a) s rfl fun _ => rfl
  case txa => exact impliedInstr_finished .txa (fun t => loadA t t.cpu.x) s rfl fun _ => rfl
  case tya => exact impliedInstr_finished .tya (fun t => loadA t t.cpu.y) s rfl fun _ => rfl
  case tsx => exact impliedInstr_finished .tsx (fun t => loadX t t.cpu.sp) s rfl fun _ => rfl
  case txs => exact impliedInstr_finished .txs (fun t => t.setSp t.cpu.x) s rfl fun _ => rfl
  case inx => exact impliedInstr_finished .inx (fun t => loadX t (t.cpu.x + 1)) s rfl fun _ => rfl
  case iny => exact impliedInstr_finished .iny (fun t => loadY t (t.cpu.y + 1)) s rfl fun _ => rfl
  case dex => exact impliedInstr_finished .dex (fun t => loadX t (t.cpu.x - 1)) s rfl fun _ => rfl
  case dey => exact impliedInstr_finished .dey (fun t => loadY t (t.cpu.y - 1)) s rfl fun _ => rfl

/-! The stack and the flag byte in whole numbers (00_scope.md R13, R14; 41_transfer_stack.md R220). -/

/-- The stack byte at `SP + k` is the one a stack pointer moved by `k` points at. -/
theorem stackIndex_eq (s : State) (k : Int) : stackIndex s k = 256 + (s.cpu.sp + BitVec.ofInt 8 k).toNat := by
  rw [stackIndex, BitVec.toNat_add, BitVec.toNat_ofInt]
  omega

/-- A push stores at `SP` and moves it down by one modulo 256. -/
theorem push_eq_stackIndex (v : Byte) (s : State) :
    push v s = { s with
      ram := s.ram.write (stackIndex s 0) v, cpu := { s.cpu with sp := BitVec.ofNat 8 (s.cpu.sp.toNat + 255) } } := by
  have hsp : s.cpu.sp + BitVec.ofInt 8 0 = s.cpu.sp := BitVec.add_zero _
  rw [push_eq, stackIndex_eq, hsp, byte_sub_one_eq_ofNat]

/-- A pull moves `SP` up by one modulo 256 and reads there. -/
theorem pull_eq_stackIndex (s : State) :
    pull s = (s.ram.read (stackIndex s 1), { s with cpu := { s.cpu with sp := BitVec.ofNat 8 (s.cpu.sp.toNat + 1) } }) := by
  rw [pull_eq, stackIndex_eq, ← byte_add_one_eq_ofNat]
  rfl

/-- `PackP` by its bits and as a number are one. -/
theorem Flags.pack_eq_packedFlags (p : Flags) (b : Bool) : p.pack b = BitVec.ofNat 8 (packedFlags p b) := by
  obtain ⟨c, z, i, d, pb, v, n⟩ := p
  simp only [Flags.pack, packedFlags]
  revert c z i d v n b
  decide

theorem getLsbD_eq_decide (v : Byte) (k : Nat) : v.getLsbD k = decide (v.toNat / 2 ^ k % 2 = 1) :=
  Nat.testBit_eq_decide_div_mod_eq

/-- `UnpackP` by its bits and in whole numbers are one. -/
theorem Flags.unpack_eq_unpackedFlags (p : Flags) (v : Byte) : p.unpack v = unpackedFlags p v := by
  simp only [Flags.unpack, unpackedFlags, getLsbD_eq_decide, Nat.reducePow, Nat.div_one]

/-! The stack instructions (41_transfer_stack.md R228 to R231). -/

theorem pushFlags_eq (s : State) : pushFlags s = push (BitVec.ofNat 8 (packedFlags s.cpu.p true)) s := by
  rw [pushFlags, Flags.pack_eq_packedFlags]

theorem pullA_eq (s : State) : pullA s = loadA (pull s).2 (pull s).1 := rfl

theorem pullFlags_eq (s : State) : pullFlags s = (pull s).2.setP (unpackedFlags s.cpu.p (pull s).1) := by
  rw [← Flags.unpack_eq_unpackedFlags, pullFlags, pull_eq]

/-- Settles O16: each stack instruction is one push or one pull, in whole numbers. -/
theorem stackInstructions : Obligations.StackInstructions := by
  intro s s1 pulled spDown spUp
  refine ⟨?pha, ?php, ?pla, ?plp⟩
  case pha =>
    have h : exec .pha s = .next ((push s1.cpu.a s1).finished .pha s) :=
      impliedInstr_finished .pha (fun t => push t.cpu.a t) s rfl fun t => by rw [push_eq]
    rw [h, push_eq_stackIndex]
    rfl
  case php =>
    have h : exec .php s = .next ((pushFlags s1).finished .php s) :=
      impliedInstr_finished .php pushFlags s rfl fun t => by rw [pushFlags_eq, push_eq]
    rw [h, pushFlags_eq, push_eq_stackIndex]
    rfl
  case pla =>
    have h : exec .pla s = .next ((pullA s1).finished .pla s) :=
      impliedInstr_finished .pla pullA s rfl fun t => by rw [pullA_eq, pull_eq, loadA_eq]
    rw [h, pullA_eq, loadA_eq, pull_eq_stackIndex]
    rfl
  case plp =>
    have h : exec .plp s = .next ((pullFlags s1).finished .plp s) :=
      impliedInstr_finished .plp pullFlags s rfl fun t => by rw [pullFlags_eq, pull_eq]; rfl
    rw [h, pullFlags_eq, pull_eq_stackIndex]
    rfl

end Sys2Proof.Machine
end

section
/-! SUPPORT. The proofs of the statements about arithmetic, logic, comparison and bit test (42_alu.md): one equation for all the rows
of the file, the carry and overflow of an addition in whole numbers, and each effect on the machine in those terms. -/

namespace Sys2Proof.Machine

/-! One shape for every row (42_alu.md R240). -/

/-- What each mnemonic of 42_alu.md does with the machine and the operand it has read. -/
def aluEffect : Mnemonic → Option (State → Byte → State)
  | .adc => some State.addToA
  | .sbc => some State.subFromA
  | .and => some andA
  | .ora => some orA
  | .eor => some eorA
  | .cmp => some compareA
  | .cpx => some compareX
  | .cpy => some compareY
  | .bit => some State.bitTest
  | _ => none

/-- Every row is a register-reading instruction at its regular cost, with its mnemonic's effect. -/
theorem exec_alu_readInstr {i : Instr} {f : State → Byte → State} (h : aluEffect i.mnemonic = some f) (s : State) :
    exec i s = readInstr i.operand (regularCost i.mnemonic i.operand.mode) (decide (i.opcode ∈ pageCrossOpcodes)) f s := by
  cases i with
  | adcImm | adcZp | adcZpX | adcAbs | adcAbsX | adcAbsY | adcIndX | adcIndY
  | sbcImm | sbcZp | sbcZpX | sbcAbs | sbcAbsX | sbcAbsY | sbcIndX | sbcIndY
  | andImm | andZp | andZpX | andAbs | andAbsX | andAbsY | andIndX | andIndY
  | oraImm | oraZp | oraZpX | oraAbs | oraAbsX | oraAbsY | oraIndX | oraIndY
  | eorImm | eorZp | eorZpX | eorAbs | eorAbsX | eorAbsY | eorIndX | eorIndY
  | cmpImm | cmpZp | cmpZpX | cmpAbs | cmpAbsX | cmpAbsY | cmpIndX | cmpIndY
  | cpxImm | cpxZp | cpxAbs | cpyImm | cpyZp | cpyAbs | bitZp | bitAbs =>
    cases h
    rfl
  | _ => cases h

theorem aluEffect_pc {m : Mnemonic} {f : State → Byte → State} (h : aluEffect m = some f) (t : State) (v : Byte) :
    (f t v).cpu.pc = t.cpu.pc := by
  cases m with
  | adc | sbc | and | ora | eor | cmp | cpx | cpy | bit =>
    cases h
    rfl
  | _ => cases h

/-- The effect on the state after the data read, and the common end. -/
theorem exec_alu {i : Instr} {f : State → Byte → State} (h : aluEffect i.mnemonic = some f) (s : State) :
    exec i s = .next ((f (dataRead i.operand s).2 (dataRead i.operand s).1).finished i s) :=
  (exec_alu_readInstr h s).trans (readInstr_finished i f s (aluEffect_pc h))

/-! The addition in whole numbers (42_alu.md R242). -/

theorem getLsbD_seven_eq_decide (v : Byte) : v.getLsbD 7 = decide (128 ≤ v.toNat) :=
  Bool.eq_iff_iff.mpr ((getLsbD_seven_iff v).trans decide_eq_true_iff.symm)

theorem bitNat_le_one (b : Bool) : bitNat b ≤ 1 := by cases b <;> decide

theorem toNat_sum9 (a m : Byte) (c : Bool) : (sum9 a m c).toNat = a.toNat + m.toNat + bitNat c := by
  have hc : (bit 9 c).toNat = bitNat c := by cases c <;> rfl
  have hle : bitNat c ≤ 1 := bitNat_le_one c
  simp only [sum9, BitVec.toNat_add, hc, BitVec.truncate_eq_setWidth, BitVec.toNat_setWidth]
  omega

theorem addResult_eq_ofNat (a m : Byte) (c : Bool) : addResult a m c = BitVec.ofNat 8 (a.toNat + m.toNat + bitNat c) := by
  rw [← toNat_sum9]
  rfl

theorem addCarry_eq_decide (a m : Byte) (c : Bool) : addCarry a m c = decide (256 ≤ a.toNat + m.toNat + bitNat c) := by
  have hlt : (sum9 a m c).toNat < 512 := (sum9 a m c).isLt
  rw [← toNat_sum9, addCarry, BitVec.getLsbD, Nat.testBit_eq_decide_div_mod_eq, decide_eq_decide]
  omega

/-- The sign rule finds exactly the sums outside a signed byte. -/
theorem addOverflow_eq_decide (a m : Byte) (c : Bool) :
    addOverflow a m c = decide (a.toInt + m.toInt + bitNat c < -128 ∨ 127 < a.toInt + m.toInt + bitNat c) := by
  have ha : a.toNat < 256 := a.isLt
  have hm : m.toNat < 256 := m.isLt
  have hc : bitNat c ≤ 1 := bitNat_le_one c
  have hsign : (addResult a m c).getLsbD 7 = decide (128 ≤ (a.toNat + m.toNat + bitNat c) % 256) := by
    rw [getLsbD_seven_eq_decide, addResult_eq_ofNat, BitVec.toNat_ofNat]
  rw [addOverflow, BitVec.getLsbD_and, BitVec.getLsbD_not, BitVec.getLsbD_xor, BitVec.getLsbD_xor, hsign,
    getLsbD_seven_eq_decide, getLsbD_seven_eq_decide, BitVec.toInt_eq_toNat_cond, BitVec.toInt_eq_toNat_cond, Bool.eq_iff_iff]
  -- the signs of the two operands
  by_cases ha7 : 128 ≤ a.toNat <;> by_cases hm7 : 128 ≤ m.toNat <;> simp [ha7, hm7] <;> omega

theorem State.addToA_eq (s : State) (m : Byte) :
    s.addToA m =
      (let sum := s.cpu.a.toNat + m.toNat + bitNat s.cpu.p.c
       let signedSum := s.cpu.a.toInt + m.toInt + bitNat s.cpu.p.c
       { s with cpu := { s.cpu with
          a := BitVec.ofNat 8 sum,
          p := { s.cpu.p.znOf (BitVec.ofNat 8 sum) with
            c := decide (256 ≤ sum), v := decide (signedSum < -128 ∨ 127 < signedSum) } } }) := by
  simp only [← addCarry_eq_decide, ← addOverflow_eq_decide, ← addResult_eq_ofNat, ← Flags.setZN_eq_znOf]
  rfl

/-! The subtraction as the addition of the complement, in whole numbers (42_alu.md R243). -/

theorem toNat_complement (m : Byte) : (m ^^^ 0xFF#8).toNat = 255 - m.toNat := by
  rw [show (0xFF#8 : Byte) = BitVec.allOnes 8 from rfl, BitVec.xor_allOnes, BitVec.toNat_not]

theorem toInt_complement (m : Byte) : (m ^^^ 0xFF#8).toInt = -m.toInt - 1 := by
  have hm : m.toNat < 256 := m.isLt
  rw [BitVec.toInt_eq_toNat_cond, BitVec.toInt_eq_toNat_cond, toNat_complement]
  omega

theorem addResult_complement (a m : Byte) (c : Bool) :
    addResult a (m ^^^ 0xFF#8) c = BitVec.ofInt 8 (a.toNat - m.toNat - (1 - bitNat c)) := by
  have hm : m.toNat < 256 := m.isLt
  refine BitVec.eq_of_toNat_eq ?_
  rw [addResult_eq_ofNat, toNat_complement, BitVec.toNat_ofNat, BitVec.toNat_ofInt]
  omega

/-- The carry of the complement's addition is the absence of a borrow. -/
theorem addCarry_complement (a m : Byte) (c : Bool) :
    addCarry a (m ^^^ 0xFF#8) c = decide (0 ≤ (a.toNat - m.toNat - (1 - bitNat c) : Int)) := by
  have hm : m.toNat < 256 := m.isLt
  rw [addCarry_eq_decide, toNat_complement, decide_eq_decide]
  omega

theorem addOverflow_complement (a m : Byte) (c : Bool) :
    addOverflow a (m ^^^ 0xFF#8) c =
      decide (a.toInt - m.toInt - (1 - bitNat c) < -128 ∨ 127 < a.toInt - m.toInt - (1 - bitNat c)) := by
  rw [addOverflow_eq_decide, toInt_complement, decide_eq_decide]
  omega

theorem State.subFromA_eq (s : State) (m : Byte) :
    s.subFromA m =
      (let difference : Int := s.cpu.a.toNat - m.toNat - (1 - bitNat s.cpu.p.c)
       let signedDifference := s.cpu.a.toInt - m.toInt - (1 - bitNat s.cpu.p.c)
       { s with cpu := { s.cpu with
          a := BitVec.ofInt 8 difference,
          p := { s.cpu.p.znOf (BitVec.ofInt 8 difference) with
            c := decide (0 ≤ difference), v := decide (signedDifference < -128 ∨ 127 < signedDifference) } } }) := by
  simp only [← addCarry_complement, ← addOverflow_complement, ← addResult_complement, ← Flags.setZN_eq_znOf]
  rfl

/-- Settles O17: both are one effect on the state after the data read, which keeps A and the flags. -/
theorem addSubtract : Obligations.AddSubtract := by
  intro i s r a c sum signedSum difference signedDifference
  have hread : LatchedReads s r.2 := dataRead_latchedReads i.operand s
  have hexec {f : State → Byte → State} (h : aluEffect i.mnemonic = some f) :
      exec i s = .next ((f r.2 r.1).finished i s) := exec_alu h s
  refine ⟨fun h => ?adc, fun h => ?sbc⟩
  case adc => rw [hexec (f := State.addToA) (congrArg aluEffect h), State.addToA_eq, hread.a, hread.p]
  case sbc => rw [hexec (f := State.subFromA) (congrArg aluEffect h), State.subFromA_eq, hread.a, hread.p]

/-! Logic, comparison and bit test (42_alu.md R244 to R250). -/

theorem State.compare_eq (s : State) (v m : Byte) :
    s.compare v m = { s with cpu := { s.cpu with
      p := { s.cpu.p with
        c := decide (m.toNat ≤ v.toNat), z := decide (v = m), n := decide (128 ≤ (v.toNat + 256 - m.toNat) % 256) } } } := by
  have hm : m.toNat < 256 := m.isLt
  have hzero : v - m = 0 ↔ v = m := sub_eq_zero
  have hdiff : (v - m).toNat = (v.toNat + 256 - m.toNat) % 256 := by
    rw [BitVec.toNat_sub]
    omega
  rw [← hdiff]
  simp only [State.compare, State.setZN, Flags.setZN_eq_znOf, Flags.znOf, hzero]
  rfl

theorem State.bitTest_eq (s : State) (m : Byte) :
    s.bitTest m = { s with cpu := { s.cpu with
      p := { s.cpu.p with
        z := decide (s.cpu.a &&& m = 0), n := decide (128 ≤ m.toNat), v := decide (m.toNat / 64 % 2 = 1) } } } := by
  have hbit6 : m.getLsbD 6 = decide (m.toNat / 64 % 2 = 1) := getLsbD_eq_decide m 6
  rw [← getLsbD_seven_eq_decide, ← hbit6]
  rfl

/-- The three logic instructions load A with a byte. -/
theorem andA_eq_loadA (s : State) (m : Byte) : andA s m = loadA s (s.cpu.a &&& m) := rfl

theorem orA_eq_loadA (s : State) (m : Byte) : orA s m = loadA s (s.cpu.a ||| m) := rfl

theorem eorA_eq_loadA (s : State) (m : Byte) : eorA s m = loadA s (s.cpu.a ^^^ m) := rfl

/-- Settles O18: each mnemonic is one effect on the state after the data read, which keeps the registers and the flags. -/
theorem logicCompareTest : Obligations.LogicCompareTest := by
  intro i s r compared
  have hread : LatchedReads s r.2 := dataRead_latchedReads i.operand s
  have hexec {f : State → Byte → State} (h : aluEffect i.mnemonic = some f) :
      exec i s = .next ((f r.2 r.1).finished i s) := exec_alu h s
  have hcompared (v : Byte) : compared v = r.2.compare v r.1 := by rw [State.compare_eq, hread.p]
  refine ⟨?logic, fun h => ?cmp, fun h => ?cpx, fun h => ?cpy, fun h => ?bit⟩
  case logic =>
    rintro (h | h | h)
    · refine ⟨s.cpu.a &&& r.1, fun k _ => by simp [h], ?_⟩
      rw [hexec (f := andA) (congrArg aluEffect h), andA_eq_loadA, loadA_eq, hread.a, hread.p]
    · refine ⟨s.cpu.a ||| r.1, fun k _ => by simp [h], ?_⟩
      rw [hexec (f := orA) (congrArg aluEffect h), orA_eq_loadA, loadA_eq, hread.a, hread.p]
    · refine ⟨s.cpu.a ^^^ r.1, fun k _ => by simp [h], ?_⟩
      rw [hexec (f := eorA) (congrArg aluEffect h), eorA_eq_loadA, loadA_eq, hread.a, hread.p]
  case cmp => rw [hexec (f := compareA) (congrArg aluEffect h), hcompared, compareA, hread.a]
  case cpx => rw [hexec (f := compareX) (congrArg aluEffect h), hcompared, compareX, hread.x]
  case cpy => rw [hexec (f := compareY) (congrArg aluEffect h), hcompared, compareY, hread.y]
  case bit => rw [hexec (f := State.bitTest) (congrArg aluEffect h), State.bitTest_eq, hread.a, hread.p]

end Sys2Proof.Machine
end

section
/-! SUPPORT. The proof of the statement about the shifts, rotates, INC and DEC (43_shift_incdec.md R262 to R267): one equation for
all the rows of the family, and each result and carry in whole numbers. -/

namespace Sys2Proof.Machine

/-! One shape for every row (43_shift_incdec.md R261). -/

/-- What each mnemonic makes of the operand it has read and the carry: the byte it puts back and the new carry. INC and DEC hand
the carry on. -/
def rmwEffect : Mnemonic → Option ShiftFn
  | .asl => some shiftAsl
  | .lsr => some shiftLsr
  | .rol => some shiftRol
  | .ror => some shiftRor
  | .inc => some fun v c => (v + 1, c)
  | .dec => some fun v c => (v - 1, c)
  | _ => none

/-- Every row is a shift at its regular cost, with its mnemonic's effect: INC and DEC are shifts that set the carry to itself. -/
theorem exec_rmw_shiftInstr {i : Instr} {f : ShiftFn} (h : rmwEffect i.mnemonic = some f) (s : State) :
    exec i s = shiftInstr i.operand (regularCost i.mnemonic i.operand.mode) f s := by
  cases i with
  | aslAcc | aslZp | aslZpX | aslAbs | aslAbsX | lsrAcc | lsrZp | lsrZpX | lsrAbs | lsrAbsX
  | rolAcc | rolZp | rolZpX | rolAbs | rolAbsX | rorAcc | rorZp | rorZpX | rorAbs | rorAbsX
  | incZp | incZpX | incAbs | incAbsX | decZp | decZpX | decAbs | decAbsX =>
    cases h
    rfl
  | _ => cases h

/-- No row of the family is marked `+p` (30_encoding.md R195). -/
theorem rmw_notMem_pageCrossOpcodes {i : Instr} {f : ShiftFn} (h : rmwEffect i.mnemonic = some f) :
    i.opcode ∉ pageCrossOpcodes := by
  cases i with
  | aslAcc | aslZp | aslZpX | aslAbs | aslAbsX | lsrAcc | lsrZp | lsrZpX | lsrAbs | lsrAbsX
  | rolAcc | rolZp | rolZpX | rolAbs | rolAbsX | rorAcc | rorZp | rorZpX | rorAbs | rorAbsX
  | incZp | incZpX | incAbs | incAbsX | decZp | decZpX | decAbs | decAbsX =>
    simp only [Instr.opcode]
    decide
  | _ => cases h

/-- A result goes to A in Accumulator mode and to the effective address in every other mode. -/
theorem operandWrite_eq_ite (o : Operand) (v : Byte) (s : State) :
    operandWrite o v s = if o = .acc then { s with cpu := { s.cpu with a := v } } else cpuWrite s.cpu.ea v s := by
  cases o with
  | acc => rfl
  | _ => simp [operandWrite]

/-- The machine after a row of the family that makes `out` of its data read: C, the result put, Z and N, and the common end. -/
def rmwFinished (i : Instr) (s : State) (out : Byte × Bool) : State :=
  let r := dataRead i.operand s
  let s2 : State := { r.2 with cpu := { r.2.cpu with p := { s.cpu.p with c := out.2 } } }
  let s3 := operandWrite i.operand out.1 s2
  { s3 with cpu := { s3.cpu with p := s3.cpu.p.znOf out.1 } }.finished i s

theorem exec_rmw {i : Instr} {f : ShiftFn} (h : rmwEffect i.mnemonic = some f) (s : State) :
    exec i s = .next (rmwFinished i s (f (dataRead i.operand s).1 s.cpu.p.c)) := by
  rw [exec_rmw_shiftInstr h, shiftInstr_eq]
  simp only [rmwFinished, Flags.setZN_eq_znOf, State.finished, expectedCost, Instr.length, rmw_notMem_pageCrossOpcodes h,
    and_false, if_false, Nat.add_zero]

/-! Each result and carry in whole numbers (43_shift_incdec.md R262 to R267). -/

theorem getLsbD_zero_eq_decide (v : Byte) : v.getLsbD 0 = decide (v.toNat % 2 = 1) := Nat.testBit_zero v.toNat

theorem toNat_bit_eq_bitNat (c : Bool) : (bit 8 c).toNat = bitNat c := by cases c <;> rfl

theorem byte_shiftLeft_one_eq_ofNat (v : Byte) : v <<< 1 = BitVec.ofNat 8 (2 * v.toNat % 256) := by
  refine BitVec.eq_of_toNat_eq ?_
  rw [BitVec.toNat_shiftLeft, BitVec.toNat_ofNat, Nat.shiftLeft_eq]
  omega

theorem byte_shiftRight_one_eq_ofNat (v : Byte) : v >>> 1 = BitVec.ofNat 8 (v.toNat / 2) := by
  have hv : v.toNat < 256 := v.isLt
  refine BitVec.eq_of_toNat_eq ?_
  rw [BitVec.toNat_ushiftRight, BitVec.toNat_ofNat, Nat.shiftRight_eq_div_pow]
  omega

/-- The carry enters the free bit 0: the or is a sum. -/
theorem byte_rotateLeft_eq_ofNat (v : Byte) (c : Bool) :
    (v <<< 1) ||| bit 8 c = BitVec.ofNat 8 ((2 * v.toNat + bitNat c) % 256) := by
  have hc : bitNat c ≤ 1 := bitNat_le_one c
  have hlow : (v <<< 1).toNat = (v.toNat % 128) <<< 1 := by
    rw [BitVec.toNat_shiftLeft, Nat.shiftLeft_eq, Nat.shiftLeft_eq]
    omega
  refine BitVec.eq_of_toNat_eq ?_
  rw [BitVec.toNat_or, hlow, toNat_bit_eq_bitNat, ← Nat.shiftLeft_add_eq_or_of_lt (by omega), Nat.shiftLeft_eq,
    BitVec.toNat_ofNat]
  omega

/-- The carry enters the free bit 7: the or is a sum. -/
theorem byte_rotateRight_eq_ofNat (v : Byte) (c : Bool) :
    (v >>> 1) ||| (bit 8 c <<< 7) = BitVec.ofNat 8 (v.toNat / 2 + 128 * bitNat c) := by
  have hv : v.toNat < 256 := v.isLt
  have hc : bitNat c ≤ 1 := bitNat_le_one c
  have hhigh : (bit 8 c <<< 7).toNat = bitNat c <<< 7 := by cases c <;> rfl
  have hlow : (v >>> 1).toNat = v.toNat / 2 := BitVec.toNat_ushiftRight v 1
  refine BitVec.eq_of_toNat_eq ?_
  rw [BitVec.or_comm, BitVec.toNat_or, hhigh, hlow, ← Nat.shiftLeft_add_eq_or_of_lt (by omega), Nat.shiftLeft_eq,
    BitVec.toNat_ofNat]
  omega

theorem shiftAsl_eq (v : Byte) (c : Bool) :
    shiftAsl v c = (BitVec.ofNat 8 (2 * v.toNat % 256), decide (128 ≤ v.toNat)) := by
  rw [shiftAsl, byte_shiftLeft_one_eq_ofNat, getLsbD_seven_eq_decide]

theorem shiftLsr_eq (v : Byte) (c : Bool) :
    shiftLsr v c = (BitVec.ofNat 8 (v.toNat / 2), decide (v.toNat % 2 = 1)) := by
  rw [shiftLsr, byte_shiftRight_one_eq_ofNat, getLsbD_zero_eq_decide]

theorem shiftRol_eq (v : Byte) (c : Bool) :
    shiftRol v c = (BitVec.ofNat 8 ((2 * v.toNat + bitNat c) % 256), decide (128 ≤ v.toNat)) := by
  rw [shiftRol, byte_rotateLeft_eq_ofNat, getLsbD_seven_eq_decide]

theorem shiftRor_eq (v : Byte) (c : Bool) :
    shiftRor v c = (BitVec.ofNat 8 (v.toNat / 2 + 128 * bitNat c), decide (v.toNat % 2 = 1)) := by
  rw [shiftRor, byte_rotateRight_eq_ofNat, getLsbD_zero_eq_decide]

/-- A result is taken modulo 256, as a byte is. -/
theorem byte_ofNat_mod (n : Nat) : BitVec.ofNat 8 (n % 256) = BitVec.ofNat 8 n :=
  BitVec.eq_of_toNat_eq (by simp)

/-- Settles O19: every mnemonic puts its effect's result and carry, which are the rule's in whole numbers. -/
theorem readModifyWrite : Obligations.ReadModifyWrite := by
  intro i s r v c put
  have hfinished (result : Nat) (carry : Bool) : rmwFinished i s (BitVec.ofNat 8 result, carry) = put result carry := by
    rw [rmwFinished, operandWrite_eq_ite]
  have hput {f : ShiftFn} (result : Nat) (carry : Bool) (h : rmwEffect i.mnemonic = some f)
      (hf : f r.1 s.cpu.p.c = (BitVec.ofNat 8 result, carry)) : exec i s = .next (put result carry) := by
    rw [exec_rmw h, ← hfinished, ← hf]
  refine ⟨fun h => ?asl, fun h => ?lsr, fun h => ?rol, fun h => ?ror, fun h => ?inc, fun h => ?dec⟩
  case asl => exact hput _ _ (congrArg rmwEffect h) (shiftAsl_eq r.1 s.cpu.p.c)
  case lsr => exact hput _ _ (congrArg rmwEffect h) (shiftLsr_eq r.1 s.cpu.p.c)
  case rol => exact hput _ _ (congrArg rmwEffect h) (shiftRol_eq r.1 s.cpu.p.c)
  case ror => exact hput _ _ (congrArg rmwEffect h) (shiftRor_eq r.1 s.cpu.p.c)
  case inc => exact hput _ _ (congrArg rmwEffect h) (by rw [byte_ofNat_mod, ← byte_add_one_eq_ofNat])
  case dec => exact hput _ _ (congrArg rmwEffect h) (by rw [byte_ofNat_mod, ← byte_sub_one_eq_ofNat])

end Sys2Proof.Machine
end

section
/-! SUPPORT. The proofs of the statements about jumps, calls, branches, BRK and RTI (44_control_flow.md): an address pushed and
pulled, an interrupt taken and left, and a branch, each whole and in whole numbers. -/

namespace Sys2Proof.Machine

/-! Addresses and their bytes in whole numbers (20_memory.md R105). -/

theorem append_byte_eq_wordOf (hi lo : Byte) : (hi ++ lo : Addr) = wordOf hi lo :=
  BitVec.eq_of_toNat_eq (by rw [wordOf, toNat_append_byte, BitVec.toNat_ofNat]; omega)

theorem wordOf_add_one (hi lo : Byte) : wordOf hi lo + 1 = BitVec.ofNat 16 (256 * hi.toNat + lo.toNat + 1) :=
  (BitVec.ofNat_add _ _).symm

theorem highByte_eq_ofNat (a : Addr) : a.extractLsb' 8 8 = BitVec.ofNat 8 (a.toNat / 256) :=
  BitVec.eq_of_toNat_eq (toNat_bitSlice a 8 8)

theorem lowByte_eq_ofNat (a : Addr) : a.extractLsb' 0 8 = BitVec.ofNat 8 (a.toNat % 256) :=
  BitVec.eq_of_toNat_eq (by rw [toNat_bitSlice, BitVec.toNat_ofNat]; omega)

theorem toNat_nextInstruction (pc : Addr) : (pc + 2).toNat = (pc.toNat + 2) % 65536 := BitVec.toNat_add pc 2

/-! The stack pointer moved by several pushes or pulls (00_scope.md R13): the moves of one byte each add up, modulo 256. -/

theorem byte_ofNat_toNat_add (v : Byte) (n : Nat) : BitVec.ofNat 8 (v.toNat + n) = v + BitVec.ofNat 8 n := by
  rw [BitVec.ofNat_add, BitVec.ofNat_toNat, BitVec.setWidth_eq]

theorem stackIndex_zero (s : State) : stackIndex s 0 = 256 + s.cpu.sp.toNat :=
  (stackIndex_eq s 0).trans (congrArg (256 + BitVec.toNat ·) (BitVec.add_zero _))

/-- An address is pushed high byte first, the low byte one slot below. -/
theorem pushAddr_eq_stackIndex (a : Addr) (s : State) :
    pushAddr a s = { s with
      ram := (s.ram.write (stackIndex s 0) (BitVec.ofNat 8 (a.toNat / 256))).write (stackIndex s (-1))
        (BitVec.ofNat 8 (a.toNat % 256)),
      cpu := { s.cpu with sp := BitVec.ofNat 8 (s.cpu.sp.toNat + 254) } } := by
  rw [pushAddr_eq, stackIndex_zero, stackIndex_eq, byte_ofNat_toNat_add, highByte_eq_ofNat, lowByte_eq_ofNat]
  simp only [BitVec.sub_eq_add_neg, BitVec.add_assoc]
  rfl

/-- An address is pulled low byte first, the high byte one slot above. -/
theorem pullAddr_eq_stackIndex (s : State) :
    pullAddr s = (wordOf (s.ram.read (stackIndex s 2)) (s.ram.read (stackIndex s 1)),
      { s with cpu := { s.cpu with sp := BitVec.ofNat 8 (s.cpu.sp.toNat + 2) } }) := by
  rw [pullAddr_eq, append_byte_eq_wordOf, byte_ofNat_toNat_add, stackIndex_eq, stackIndex_eq, BitVec.add_assoc]
  rfl

/-- Taking an interrupt stores in three slots downwards and reads a vector, which has no side effect. -/
theorem takeInterrupt_eq_stackIndex (ret : Addr) (brk : Bool) (vector : Addr) (s : State) (h : 0x8000 ≤ vector.toNat)
    (h' : 0x8000 ≤ (vector + 1).toNat) :
    takeInterrupt ret brk vector s = { s with
      ram := ((s.ram.write (stackIndex s 0) (BitVec.ofNat 8 (ret.toNat / 256))).write (stackIndex s (-1))
        (BitVec.ofNat 8 (ret.toNat % 256))).write (stackIndex s (-2)) (BitVec.ofNat 8 (packedFlags s.cpu.p brk)),
      cpu := { s.cpu with
        sp := BitVec.ofNat 8 (s.cpu.sp.toNat + 253), p := { s.cpu.p with b := brk, i := true },
        pc := wordOf (cpuRead (vector + 1) s).1 (cpuRead vector s).1 } } := by
  rw [takeInterrupt_eq ret brk vector s h h', cpuRead_rom _ s h, cpuRead_rom _ s h', append_byte_eq_wordOf, stackIndex_zero,
    stackIndex_eq, stackIndex_eq, byte_ofNat_toNat_add, highByte_eq_ofNat, lowByte_eq_ofNat, Flags.pack_eq_packedFlags]
  simp only [BitVec.sub_eq_add_neg, BitVec.add_assoc]
  rfl

/-- Returning from an interrupt reads three slots upwards. -/
theorem returnFromInterrupt_eq_stackIndex (s : State) :
    returnFromInterrupt s = { s with
      cpu := { s.cpu with
        sp := BitVec.ofNat 8 (s.cpu.sp.toNat + 3), p := unpackedFlags s.cpu.p (s.ram.read (stackIndex s 1)),
        pc := wordOf (s.ram.read (stackIndex s 3)) (s.ram.read (stackIndex s 2)) } } := by
  rw [returnFromInterrupt_eq, append_byte_eq_wordOf, Flags.unpack_eq_unpackedFlags, byte_ofNat_toNat_add, stackIndex_eq,
    stackIndex_eq, stackIndex_eq]
  simp only [BitVec.add_assoc]
  rfl

/-! Jumps and calls (44_control_flow.md R282 to R284). -/

/-- Settles O20: both jumps by their definition, JSR as one address pushed, RTS as one pulled and one added. -/
theorem jumpsAndCalls : Obligations.JumpsAndCalls := by
  intro s a direct indirect implied ret
  refine ⟨rfl, rfl, ?jsr, ?rts⟩
  case jsr =>
    have h : exec (.jsrAbs a) s = .next (((pushAddr (s.cpu.pc + 2) direct).setPc a).setCountdown 6) := rfl
    rw [h, pushAddr_eq_stackIndex, toNat_nextInstruction]
    rfl
  case rts =>
    have h : exec .rts s = .next (((pullAddr implied).2.setPc ((pullAddr implied).1 + 1)).setCountdown 6) := rfl
    rw [h, pullAddr_eq_stackIndex, wordOf_add_one]
    rfl

/-! Branches (44_control_flow.md R285 to R293). -/

theorem addr_eq_ofNat_of_toNat_eq {a : Addr} {n : Nat} (h : a.toNat = n) : a = BitVec.ofNat 16 n := by
  rw [← h, BitVec.ofNat_toNat, BitVec.setWidth_eq]

/-- The effective address of a branch is its target, in whole numbers. -/
theorem toNat_ea_address_rel (d : Int) (s : State) :
    (address (.rel d) s).cpu.ea.toNat = ((s.cpu.pc.toNat + 2 + d) % 65536).toNat :=
  congrArg Int.toNat (toNat_branchTarget s.cpu.pc d)

/-- A branch on any condition: the target at 3 cycles, or 4 across a page from the next instruction; else the next instruction
at 2 (R285). -/
theorem branchInstr_eq (d : Int) (cond : Flags → Bool) (s : State) :
    let s1 := address (.rel d) s
    let next := (s.cpu.pc.toNat + 2) % 65536
    let target := ((s.cpu.pc.toNat + 2 + d) % 65536).toNat
    branchInstr d cond s = .next (if cond s.cpu.p = true then
        { s1 with cpu := { s1.cpu with
          pc := BitVec.ofNat 16 target, countdown := if next / 256 ≠ target / 256 then 4 else 3 } }
      else { s1 with cpu := { s1.cpu with pc := BitVec.ofNat 16 next, countdown := 2 } }) := by
  intro s1 next target
  have hnext : (s1.cpu.pc + 2).toNat = next := toNat_nextInstruction s.cpu.pc
  have htarget : s1.cpu.ea.toNat = target := toNat_ea_address_rel d s
  have hcost : 3 + (if pageDiffers (s1.cpu.pc + 2) s1.cpu.ea then 1 else 0) =
      if next / 256 ≠ target / 256 then 4 else 3 := by
    simp only [pageDiffers_eq, hnext, htarget, decide_eq_true_iff]
    split <;> rfl
  have hp : s1.cpu.p = s.cpu.p := (address_latchedReads (.rel d) s).p
  rw [branchInstr, hcost, hp, ← addr_eq_ofNat_of_toNat_eq hnext, ← addr_eq_ofNat_of_toNat_eq htarget]
  split <;> rfl

/-- Settles O21: each branch is the one branch, on its flag set or on its flag clear. -/
theorem branches : Obligations.Branches := by
  intro d s s1 next target go stay
  have hset (flag : Flags → Bool) : branchInstr d flag s = .next (if flag s.cpu.p = true then go else stay) :=
    branchInstr_eq d flag s
  have hclear (flag : Flags → Bool) :
      branchInstr d (fun p => !flag p) s = .next (if flag s.cpu.p = false then go else stay) := by
    simpa only [Bool.not_eq_true'] using hset (fun p => !flag p)
  exact ⟨hclear Flags.n, hset Flags.n, hclear Flags.v, hset Flags.v, hclear Flags.c, hset Flags.c, hclear Flags.z, hset Flags.z⟩

/-! BRK and RTI (44_control_flow.md R294, R295). -/

/-- Settles O22: BRK is the interrupt through the vector at 0xFFFE with the address two past the opcode, RTI the return from one. -/
theorem breakAndReturn : Obligations.BreakAndReturn := by
  intro s s1 ret
  refine ⟨?brk, ?rti⟩
  case brk =>
    have h : exec .brk s = .next ((takeInterrupt (s.cpu.pc + 2) true brkVector s1).setCountdown 7) := rfl
    rw [h, takeInterrupt_eq_stackIndex _ _ _ _ (by decide) (by decide), toNat_nextInstruction]
    rfl
  case rti =>
    have h : exec .rti s = .next ((returnFromInterrupt s1).setCountdown 6) := rfl
    rw [h, returnFromInterrupt_eq_stackIndex]
    rfl

end Sys2Proof.Machine
end

section
/-! SUPPORT. The proof of the statement about the flag instructions and NOP (45_flags_nop.md R311 to R318). -/

namespace Sys2Proof.Machine

/-- An Implied instruction of 2 cycles that only makes new flags of the old ones: neither they nor PC depend on the latch. -/
theorem impliedInstr_setP (g : Flags → Flags) (s : State) :
    impliedInstr 2 (fun t => t.setP (g t.cpu.p)) s = .next { address .imp s with
      cpu := { (address .imp s).cpu with p := g s.cpu.p, pc := s.cpu.pc + 1, countdown := 2 } } := by
  have hreads := address_latchedReads .imp s
  simp only [impliedInstr, retire, State.setPc, State.setCountdown, State.setP, hreads.p, hreads.pc]
  rfl

/-- Settles O23: each flag instruction makes one change to the flags, and NOP puts the flags back as they are. -/
theorem flagInstructions : Obligations.FlagInstructions := by
  intro s answer
  refine ⟨?clc, ?sec, ?cli, ?sei, ?clv, ?cld, ?sed, ?nop⟩
  case clc => exact impliedInstr_setP (fun p => { p with c := false }) s
  case sec => exact impliedInstr_setP (fun p => { p with c := true }) s
  case cli => exact impliedInstr_setP (fun p => { p with i := false }) s
  case sei => exact impliedInstr_setP (fun p => { p with i := true }) s
  case clv => exact impliedInstr_setP (fun p => { p with v := false }) s
  case cld => exact impliedInstr_setP (fun p => { p with d := false }) s
  case sed => exact impliedInstr_setP (fun p => { p with d := true }) s
  case nop => exact impliedInstr_setP id s

end Sys2Proof.Machine
end

section
/-! SUPPORT. The proofs of the statements about the eight PPU registers (50_ppu.md R326 to R337): the fields a write puts together from
bits, and the PPU's address and its step, in whole numbers. -/

namespace Sys2Proof.Machine

/-! Bits put together, in whole numbers. -/

theorem toNat_append_eq_add {n m : Nat} (x : BitVec n) (y : BitVec m) : (x ++ y).toNat = x.toNat * 2 ^ m + y.toNat := by
  rw [BitVec.toNat_append, ← Nat.shiftLeft_add_eq_or_of_lt y.isLt, Nat.shiftLeft_eq]

/-- A vector is the one of a number when its own number is that one modulo the width. -/
theorem eq_ofNat_of_toNat_mod {w n : Nat} {x : BitVec w} (h : x.toNat = n % 2 ^ w) : x = BitVec.ofNat w n :=
  BitVec.eq_of_toNat_eq (h.trans (BitVec.toNat_ofNat n w).symm)

/-! Register writes (50_ppu.md R326, R331 to R334, R336). -/

theorem Ppu.vAddr_eq_ofNat (p : Ppu) : p.vAddr = BitVec.ofNat 14 p.v.toNat :=
  eq_ofNat_of_toNat_mod (by rw [Ppu.vAddr, toNat_bitSlice, Nat.pow_zero, Nat.div_one])

theorem Ppu.nextV_eq_ofNat (p : Ppu) :
    p.nextV = BitVec.ofNat 15 (p.v.toNat + if p.ctrl.getLsbD 2 then 32 else 1) := by
  apply eq_ofNat_of_toNat_mod
  rw [Ppu.nextV, Ppu.inc32, BitVec.toNat_add]
  cases p.ctrl.getLsbD 2 <;> rfl

theorem Ppu.writeCtrl_eq (p : Ppu) (v : Byte) :
    p.writeCtrl v = { p with
      ctrl := v, t := BitVec.ofNat 15 (p.t.toNat / 4096 * 4096 + v.toNat % 4 * 1024 + p.t.toNat % 1024) } := by
  have ht : p.t.extractLsb' 12 3 ++ v.extractLsb' 0 2 ++ p.t.extractLsb' 0 10 =
      BitVec.ofNat 15 (p.t.toNat / 4096 * 4096 + v.toNat % 4 * 1024 + p.t.toNat % 1024) := by
    apply eq_ofNat_of_toNat_mod
    simp only [toNat_append_eq_add, toNat_bitSlice, Nat.reducePow, Nat.div_one]
    omega
  rw [Ppu.writeCtrl, ht]

theorem Ppu.writeOamData_eq (p : Ppu) (v : Byte) :
    p.writeOamData v = { p with
      oam := p.oam.write p.oamAddr.toNat v, oamAddr := BitVec.ofNat 8 (p.oamAddr.toNat + 1) } := by
  rw [Ppu.writeOamData, byte_add_one_eq_ofNat]

theorem Ppu.writeScroll_first {p : Ppu} (hw : p.w = false) (v : Byte) :
    p.writeScroll v = { p with
      t := BitVec.ofNat 15 (p.t.toNat / 32 * 32 + v.toNat / 8), x := BitVec.ofNat 3 v.toNat, w := true } := by
  have ht : p.t.extractLsb' 5 10 ++ v.extractLsb' 3 5 = BitVec.ofNat 15 (p.t.toNat / 32 * 32 + v.toNat / 8) := by
    apply eq_ofNat_of_toNat_mod
    simp only [toNat_append_eq_add, toNat_bitSlice, Nat.reducePow]
    omega
  have hx : v.extractLsb' 0 3 = BitVec.ofNat 3 v.toNat :=
    eq_ofNat_of_toNat_mod (by rw [toNat_bitSlice, Nat.pow_zero, Nat.div_one])
  rw [Ppu.writeScroll, if_pos hw, ht, hx]

theorem Ppu.writeScroll_second {p : Ppu} (hw : p.w = true) (v : Byte) :
    p.writeScroll v = { p with
      t := BitVec.ofNat 15 (v.toNat % 8 * 4096 + p.t.toNat / 1024 % 4 * 1024 + v.toNat / 8 * 32 + p.t.toNat % 32),
      w := false } := by
  have ht : v.extractLsb' 0 3 ++ p.t.extractLsb' 10 2 ++ v.extractLsb' 3 5 ++ p.t.extractLsb' 0 5 =
      BitVec.ofNat 15 (v.toNat % 8 * 4096 + p.t.toNat / 1024 % 4 * 1024 + v.toNat / 8 * 32 + p.t.toNat % 32) := by
    have hcoarse : v.toNat / 8 % 32 = v.toNat / 8 := by have := v.isLt; omega
    apply eq_ofNat_of_toNat_mod
    simp only [toNat_append_eq_add, toNat_bitSlice, Nat.reducePow, Nat.div_one, hcoarse]
    omega
  rw [Ppu.writeScroll, if_neg (by simp [hw]), ht]

theorem Ppu.writeAddr_first {p : Ppu} (hw : p.w = false) (v : Byte) :
    p.writeAddr v = { p with t := BitVec.ofNat 15 (v.toNat % 64 * 256 + p.t.toNat % 256), w := true } := by
  have ht : 0#1 ++ v.extractLsb' 0 6 ++ p.t.extractLsb' 0 8 = BitVec.ofNat 15 (v.toNat % 64 * 256 + p.t.toNat % 256) := by
    apply eq_ofNat_of_toNat_mod
    simp only [toNat_append_eq_add, toNat_bitSlice, BitVec.toNat_ofNat, Nat.reducePow, Nat.div_one]
    omega
  rw [Ppu.writeAddr, if_pos hw, ht]

theorem Ppu.writeAddr_second {p : Ppu} (hw : p.w = true) (v : Byte) :
    p.writeAddr v = { p with
      t := BitVec.ofNat 15 (p.t.toNat / 256 * 256 + v.toNat), v := BitVec.ofNat 15 (p.t.toNat / 256 * 256 + v.toNat),
      w := false } := by
  have ht : p.t.extractLsb' 8 7 ++ v = BitVec.ofNat 15 (p.t.toNat / 256 * 256 + v.toNat) := by
    apply eq_ofNat_of_toNat_mod
    simp only [toNat_append_eq_add, toNat_bitSlice, Nat.reducePow]
    omega
  rw [Ppu.writeAddr, if_neg (by simp [hw]), ht]

theorem State.writeData_eq (s : State) (v : Byte) :
    s.writeData v = (s.ppuWrite (BitVec.ofNat 14 s.ppu.v.toNat) v).setPpu
      { (s.ppuWrite (BitVec.ofNat 14 s.ppu.v.toNat) v).ppu with
        v := BitVec.ofNat 15 (s.ppu.v.toNat + if s.ppu.ctrl.getLsbD 2 then 32 else 1) } := by
  rw [State.writeData, Ppu.vAddr_eq_ofNat, Ppu.nextV_eq_ofNat]

/-- Settles O45: each register's write is its equation in whole numbers, PPUSCROLL and PPUADDR by the write toggle. -/
theorem ppuRegisterWrites : Obligations.PpuRegisterWrites := by
  intro s v n t a
  exact ⟨congrArg s.setPpu (s.ppu.writeCtrl_eq v), rfl, rfl, rfl, congrArg s.setPpu (s.ppu.writeOamData_eq v),
    fun hw => congrArg s.setPpu (Ppu.writeScroll_first hw v), fun hw => congrArg s.setPpu (Ppu.writeScroll_second hw v),
    fun hw => congrArg s.setPpu (Ppu.writeAddr_first hw v), fun hw => congrArg s.setPpu (Ppu.writeAddr_second hw v),
    s.writeData_eq v⟩

/-! Register reads (50_ppu.md R327, R330, R335, R337). -/

theorem Ppu.at_iff (p : Ppu) (line dot : Nat) : p.at line dot = true ↔ p.scanline = line ∧ p.dot = dot := by
  simp [Ppu.at]

/-- A bit as a vector of one bit, in whole numbers. -/
theorem toNat_ofBool_eq_bitNat (b : Bool) : (BitVec.ofBool b).toNat = bitNat b := by cases b <;> rfl

theorem readStatus_value (s : State) :
    s.readStatus.1.toNat / 32 = 4 * bitNat s.ppu.vblank + 2 * bitNat s.ppu.spr0Hit + bitNat s.ppu.overflow := by
  have hfree := (s.draw.1.extractLsb' 0 5).isLt
  simp only [State.readStatus, toNat_append_eq_add, toNat_ofBool_eq_bitNat]
  omega

theorem readStatus_state (s : State) :
    s.readStatus.2 = { s with
      draws := s.draws + 1,
      ppu := { s.ppu with
        vblank := false, w := false,
        suppressVbl := s.ppu.suppressVbl || decide (s.ppu.scanline = 241 ∧ s.ppu.dot = 1) },
      cpu := { s.cpu with
        nmiPending := if s.ppu.scanline = 241 ∧ (s.ppu.dot = 2 ∨ s.ppu.dot = 3) then false else s.cpu.nmiPending } } := by
  have hsuppress : (if s.ppu.at 241 1 = true then true else s.ppu.suppressVbl) =
      (s.ppu.suppressVbl || decide (s.ppu.scanline = 241 ∧ s.ppu.dot = 1)) := by
    rw [Bool.eq_iff_iff]
    simp [Ppu.at_iff, or_comm]
  have hlate : (s.ppu.at 241 2 || s.ppu.at 241 3) = true ↔ s.ppu.scanline = 241 ∧ (s.ppu.dot = 2 ∨ s.ppu.dot = 3) := by
    rw [Bool.or_eq_true, Ppu.at_iff, Ppu.at_iff, and_or_left]
  simp only [State.readStatus, hsuppress, hlate]
  split <;> rfl

theorem readData_palette {s : State} (h : 0x3F00 ≤ s.ppu.vAddr.toNat) :
    s.readData = (s.ppu.palette.read (palIndex s.ppu.vAddr),
      s.setPpu { s.ppu with readBuffer := s.ppu.nt.read (ntIndex s.mirroring s.ppu.vAddr), v := s.ppu.nextV }) := by
  rw [State.readData, if_pos h]

theorem readData_buffered {s : State} (h : s.ppu.vAddr.toNat < 0x3F00) :
    s.readData = (s.ppu.readBuffer, s.setPpu { s.ppu with readBuffer := s.ppuRead s.ppu.vAddr, v := s.ppu.nextV }) := by
  rw [State.readData, if_neg (Nat.not_le.mpr h)]

/-- A register that cannot be read gives a free value and changes nothing else. -/
theorem ppuRegRead_writeOnly (s : State) (r : BitVec 3) (h : r.toNat ∈ [0, 1, 3, 5, 6]) : s.ppuRegRead r = s.draw := by
  unfold State.ppuRegRead
  split
  · next hr => simp [hr] at h
  · next hr => simp [hr] at h
  · next hr => simp [hr] at h
  · rfl

/-- Settles O46: PPUSTATUS by its value and its next state, PPUDATA by its two cases, the write-only registers as a free value. -/
theorem ppuRegisterReads : Obligations.PpuRegisterReads := by
  intro s status a v' line dot
  have ha : a = s.ppu.vAddr := s.ppu.vAddr_eq_ofNat.symm
  have hv : v' = s.ppu.nextV := s.ppu.nextV_eq_ofNat.symm
  rw [ha, hv]
  exact ⟨readStatus_value s, readStatus_state s, fun r hr => ⟨_, ppuRegRead_writeOnly s r hr⟩, rfl, readData_palette,
    readData_buffered⟩

end Sys2Proof.Machine
end

section
/-! SUPPORT. One PPU tick step by step (50_ppu.md R350): what each of its five steps does and what it leaves alone, and from them where
each field of the PPU comes from after a tick. -/

namespace Sys2Proof.Machine

theorem preRender_eq (tv : TvSystem) : preRender tv = if tv = .ntsc then 261 else 311 := by cases tv <;> rfl

theorem linesPerFrame_eq (tv : TvSystem) : linesPerFrame tv = if tv = .ntsc then 262 else 312 := by cases tv <;> rfl

/-- The pre-render line comes after the line the vblank flag rises on, and so after the visible lines. -/
theorem vblankLine_lt_preRender (tv : TvSystem) : 241 < preRender tv := by cases tv <;> decide

theorem Ppu.rendering_iff (p : Ppu) : p.rendering = true ↔ p.mask.getLsbD 3 = true ∨ p.mask.getLsbD 4 = true := by
  rw [Ppu.rendering, Bool.or_eq_true, Ppu.showBg, Ppu.showSpr]

/-! Step 1, flags (R352, R355). -/

theorem State.startVblank_eq (s : State) :
    s.startVblank = { s with
      ppu := { s.ppu with vblank := s.ppu.vblank || !s.ppu.suppressVbl, suppressVbl := false },
      cpu := { s.cpu with nmiPending := s.cpu.nmiPending || (!s.ppu.suppressVbl && s.ppu.ctrl.getLsbD 7) } } := by
  have hn : s.ppu.ctrl.getLsbD 7 = s.ppu.nmiEnable := rfl
  rw [hn]
  cases hsuppress : s.ppu.suppressVbl <;> cases hnmi : s.ppu.nmiEnable <;>
    simp [State.startVblank, hsuppress, hnmi, State.setPpu, State.setNmi]

theorem State.flagStep_vblankDot {s : State} (hline : s.ppu.scanline = 241) (hdot : s.ppu.dot = 1) (tv : TvSystem) :
    s.flagStep tv = s.startVblank := by
  have hpre := vblankLine_lt_preRender tv
  have hat : s.ppu.at 241 1 = true := (s.ppu.at_iff 241 1).mpr ⟨hline, hdot⟩
  have hnot : ¬ s.startVblank.ppu.at (preRender tv) 1 = true := by
    rw [Ppu.at_iff, s.startVblank_eq]
    exact fun h => absurd (hline.symm.trans h.1) (by omega)
  simp only [State.flagStep, hat, if_true, if_neg hnot]

/-- Anywhere but at (241, 1) the flag step is the fall of the status flags, if anything. -/
theorem State.flagStep_of_not_vblankDot {s : State} (h : ¬ (s.ppu.scanline = 241 ∧ s.ppu.dot = 1)) (tv : TvSystem) :
    s.flagStep tv = if s.ppu.scanline = preRender tv ∧ s.ppu.dot = 1 then s.setPpu s.ppu.clearStatus else s := by
  simp only [State.flagStep, Ppu.at_iff, if_neg h]

theorem State.flagStep_preRenderDot {s : State} {tv : TvSystem} (hline : s.ppu.scanline = preRender tv) (hdot : s.ppu.dot = 1) :
    s.flagStep tv = s.setPpu s.ppu.clearStatus := by
  have hpre := vblankLine_lt_preRender tv
  rw [State.flagStep_of_not_vblankDot (by omega), if_pos ⟨hline, hdot⟩]

theorem State.flagStep_elsewhere {s : State} {tv : TvSystem} (hvbl : ¬ (s.ppu.scanline = 241 ∧ s.ppu.dot = 1))
    (hpre : ¬ (s.ppu.scanline = preRender tv ∧ s.ppu.dot = 1)) : s.flagStep tv = s := by
  rw [State.flagStep_of_not_vblankDot hvbl, if_neg hpre]

theorem State.flagStep_visible {s : State} (h : s.ppu.scanline < 240) (tv : TvSystem) : s.flagStep tv = s := by
  have hpre := vblankLine_lt_preRender tv
  exact State.flagStep_elsewhere (by omega) (by omega)

/-- The flag step changes the status flags, the suppression and the NMI request, at most. -/
theorem State.flagStep_frame (tv : TvSystem) (s : State) :
    s.flagStep tv = { s with
      ppu := { s.ppu with
        vblank := (s.flagStep tv).ppu.vblank, spr0Hit := (s.flagStep tv).ppu.spr0Hit,
        overflow := (s.flagStep tv).ppu.overflow, suppressVbl := (s.flagStep tv).ppu.suppressVbl },
      cpu := { s.cpu with nmiPending := (s.flagStep tv).cpu.nmiPending } } := by
  by_cases hvbl : s.ppu.scanline = 241 ∧ s.ppu.dot = 1
  · rw [State.flagStep_vblankDot hvbl.1 hvbl.2, s.startVblank_eq]
  · rw [State.flagStep_of_not_vblankDot hvbl]
    split <;> rfl

/-! Step 2, pixel (R323). -/

theorem State.pixelStep_visible {s : State} (h : s.ppu.scanline < 240 ∧ 1 ≤ s.ppu.dot ∧ s.ppu.dot ≤ 256) :
    s.pixelStep = s.renderPixel (s.ppu.dot - 1) s.ppu.scanline := if_pos h

theorem State.pixelStep_blank {s : State} (h : ¬ (s.ppu.scanline < 240 ∧ 1 ≤ s.ppu.dot ∧ s.ppu.dot ≤ 256)) :
    s.pixelStep = s := if_neg h

/-- The pixel step changes the sprite-0 flag and the framebuffer, at most. -/
theorem State.pixelStep_frame (s : State) :
    s.pixelStep = { s with ppu := { s.ppu with spr0Hit := s.pixelStep.ppu.spr0Hit, fb := s.pixelStep.ppu.fb } } := by
  unfold State.pixelStep
  split <;> rfl

/-- The machine after the flag step and the pixel step of a tick. -/
def State.drawn (s : State) : State := (s.flagStep s.cfg.header.tv).pixelStep

theorem State.drawn_frame (s : State) :
    s.drawn = { s with
      ppu := { s.ppu with
        vblank := (s.flagStep s.cfg.header.tv).ppu.vblank, suppressVbl := (s.flagStep s.cfg.header.tv).ppu.suppressVbl,
        overflow := (s.flagStep s.cfg.header.tv).ppu.overflow, spr0Hit := s.drawn.ppu.spr0Hit, fb := s.drawn.ppu.fb },
      cpu := (s.flagStep s.cfg.header.tv).cpu } := by
  rw [State.drawn, State.pixelStep_frame, State.flagStep_frame]

theorem State.drawn_visible {s : State} (h : s.ppu.scanline < 240) : s.drawn = s.pixelStep := by
  rw [State.drawn, State.flagStep_visible h]

theorem State.drawn_blank {s : State} (h : ¬ (s.ppu.scanline < 240 ∧ 1 ≤ s.ppu.dot ∧ s.ppu.dot ≤ 256)) :
    s.drawn = s.flagStep s.cfg.header.tv := by
  refine State.pixelStep_blank ?_
  rw [State.flagStep_frame]
  exact h

/-! Step 3, sprites (R363, R366 to R371). -/

theorem Ppu.evaluate_clear {p : Ppu} (hr : p.rendering = true) (h1 : 1 ≤ p.dot) (h64 : p.dot ≤ 64) :
    p.evaluate = if p.dot % 2 = 0 then p.clearSecondary else p := by
  simp only [Ppu.evaluate, hr, show p.dot ≠ 257 by omega, h1, h64, and_self, if_true, if_false, Bool.true_eq_false]

theorem Ppu.evaluate_start {p : Ppu} (hr : p.rendering = true) (hdot : p.dot = 65) :
    p.evaluate = p.startEvaluation.evRead := by
  simp [Ppu.evaluate, hr, hdot]

theorem Ppu.evaluate_read {p : Ppu} (hr : p.rendering = true) (h67 : 67 ≤ p.dot) (h255 : p.dot ≤ 255) (hodd : p.dot % 2 = 1) :
    p.evaluate = p.evRead := by
  simp [Ppu.evaluate, hr, hodd, show p.dot ≠ 257 by omega, show ¬ p.dot ≤ 64 by omega, show p.dot ≠ 65 by omega,
    show 65 < p.dot ∧ p.dot ≤ 256 by omega]

theorem Ppu.evaluate_act {p : Ppu} (hr : p.rendering = true) (h66 : 66 ≤ p.dot) (h256 : p.dot ≤ 256) (heven : p.dot % 2 = 0) :
    p.evaluate = p.evAct := by
  simp [Ppu.evaluate, hr, heven, show p.dot ≠ 257 by omega, show ¬ p.dot ≤ 64 by omega, show p.dot ≠ 65 by omega,
    show 65 < p.dot ∧ p.dot ≤ 256 by omega]

theorem Ppu.evaluate_latch {p : Ppu} (hdot : p.dot = 257) : p.evaluate = p.latchSprites := by
  simp [Ppu.evaluate, hdot]

theorem Ppu.evaluate_rest {p : Ppu} (hdot : p.dot ≠ 257) (h : p.rendering = false ∨ p.dot = 0 ∨ 257 ≤ p.dot) :
    p.evaluate = p := by
  rcases h with hr | h
  · simp [Ppu.evaluate, hr, hdot]
  · have h1 : ¬ (1 ≤ p.dot ∧ p.dot ≤ 64) := by omega
    have h2 : ¬ (65 < p.dot ∧ p.dot ≤ 256) := by omega
    simp only [Ppu.evaluate, hdot, h1, h2, show p.dot ≠ 65 by omega, if_false, ite_self]

/-- One dot of the evaluation is one of its actions, or nothing. -/
theorem Ppu.evaluate_cases (p : Ppu) :
    p.evaluate = p ∨ p.evaluate = p.clearSecondary ∨ p.evaluate = p.startEvaluation.evRead ∨ p.evaluate = p.evRead ∨
      p.evaluate = p.evAct ∨ p.dot = 257 ∧ p.evaluate = p.latchSprites := by
  unfold Ppu.evaluate
  dsimp only
  split_ifs <;> simp_all

/-- An even dot of the evaluation changes its registers, secondary OAM and the overflow flag, at most. -/
theorem Ppu.evAct_frame (p : Ppu) :
    p.evAct = { p with
      overflow := p.evAct.overflow, secOam := p.evAct.secOam, evN := p.evAct.evN, evM := p.evAct.evM,
      evFound := p.evAct.evFound, evPhase := p.evAct.evPhase, evSpr0 := p.evAct.evSpr0 } := by
  unfold Ppu.evAct Ppu.evScan Ppu.evCopy Ppu.evOverflow Ppu.nextSprite
  split <;> dsimp only <;> split_ifs <;> rfl

theorem Ppu.evRead_frame (p : Ppu) : p.evRead = { p with evLatch := p.evRead.evLatch } := by
  unfold Ppu.evRead
  split <;> rfl

theorem Ppu.latchSprites_frame (p : Ppu) :
    p.latchSprites = { p with
      lineSpr := p.latchSprites.lineSpr, lineCount := p.latchSprites.lineCount, lineSpr0 := p.latchSprites.lineSpr0 } := by
  unfold Ppu.latchSprites
  split <;> rfl

/-- A dot of the evaluation changes its registers, secondary OAM, the overflow flag and the latched sprites, at most. -/
theorem Ppu.evaluate_frame (p : Ppu) :
    p.evaluate = { p with
      overflow := p.evaluate.overflow, secOam := p.evaluate.secOam, evN := p.evaluate.evN, evM := p.evaluate.evM,
      evFound := p.evaluate.evFound, evPhase := p.evaluate.evPhase, evLatch := p.evaluate.evLatch,
      evSpr0 := p.evaluate.evSpr0, lineSpr := p.evaluate.lineSpr, lineCount := p.evaluate.lineCount,
      lineSpr0 := p.evaluate.lineSpr0 } := by
  rcases p.evaluate_cases with h | h | h | h | h | ⟨-, h⟩ <;> rw [h]
  · rfl
  · rw [Ppu.evRead_frame]; rfl
  · rw [Ppu.evRead_frame]
  · rw [Ppu.evAct_frame]
  · rw [Ppu.latchSprites_frame]

/-- `p` with the sprite-0 flag and the framebuffer the pixel step gave it. -/
def Ppu.withPixel (p : Ppu) (hit : Bool) (fb : Memory) : Ppu := { p with spr0Hit := hit, fb := fb }

theorem Ppu.withPixel_ite (c : Prop) [Decidable c] (p q : Ppu) (hit : Bool) (fb : Memory) :
    (if c then p else q).withPixel hit fb = if c then p.withPixel hit fb else q.withPixel hit fb :=
  apply_ite (Ppu.withPixel · hit fb) c p q

theorem Ppu.nextSprite_withPixel (p : Ppu) (hit : Bool) (fb : Memory) :
    (p.withPixel hit fb).nextSprite = p.nextSprite.withPixel hit fb := by
  rw [Ppu.nextSprite, Ppu.nextSprite, Ppu.withPixel_ite]; rfl

theorem Ppu.evScan_withPixel (p : Ppu) (hit : Bool) (fb : Memory) :
    (p.withPixel hit fb).evScan = p.evScan.withPixel hit fb := by
  rw [Ppu.evScan, Ppu.evScan, Ppu.withPixel_ite, ← Ppu.nextSprite_withPixel]; rfl

theorem Ppu.evCopy_withPixel (p : Ppu) (hit : Bool) (fb : Memory) :
    (p.withPixel hit fb).evCopy = p.evCopy.withPixel hit fb := by
  rw [Ppu.evCopy, Ppu.evCopy, Ppu.withPixel_ite, ← Ppu.nextSprite_withPixel]; rfl

theorem Ppu.evOverflow_withPixel (p : Ppu) (hit : Bool) (fb : Memory) :
    (p.withPixel hit fb).evOverflow = p.evOverflow.withPixel hit fb := by
  rw [Ppu.evOverflow, Ppu.evOverflow, Ppu.withPixel_ite, ← Ppu.nextSprite_withPixel]; rfl

theorem Ppu.evAct_withPixel (p : Ppu) (hit : Bool) (fb : Memory) :
    (p.withPixel hit fb).evAct = p.evAct.withPixel hit fb := by
  have hphase : (p.withPixel hit fb).evPhase = p.evPhase := rfl
  rw [Ppu.evAct, Ppu.evAct, hphase]
  cases p.evPhase
  · exact p.evScan_withPixel hit fb
  · exact p.evCopy_withPixel hit fb
  · exact p.evOverflow_withPixel hit fb
  · rfl

theorem Ppu.evRead_withPixel (p : Ppu) (hit : Bool) (fb : Memory) :
    (p.withPixel hit fb).evRead = p.evRead.withPixel hit fb := by
  rw [Ppu.evRead, Ppu.evRead, Ppu.withPixel_ite]; rfl

theorem Ppu.latchSprites_withPixel (p : Ppu) (hit : Bool) (fb : Memory) :
    (p.withPixel hit fb).latchSprites = p.latchSprites.withPixel hit fb := by
  rw [Ppu.latchSprites, Ppu.latchSprites, Ppu.withPixel_ite]; rfl

/-- The evaluation neither reads nor writes what the pixel step changes. -/
theorem Ppu.evaluate_withPixel (p : Ppu) (hit : Bool) (fb : Memory) :
    (p.withPixel hit fb).evaluate = p.evaluate.withPixel hit fb := by
  simp only [Ppu.evaluate, Ppu.withPixel_ite, ← Ppu.latchSprites_withPixel, ← Ppu.evAct_withPixel, ← Ppu.evRead_withPixel]
  rfl

theorem Ppu.spriteStep_visible {p : Ppu} (h : p.scanline < 240) (tv : TvSystem) : p.spriteStep tv = p.evaluate := if_pos h

theorem Ppu.spriteStep_below {p : Ppu} (h : ¬ p.scanline < 240) (tv : TvSystem) :
    p.spriteStep tv = if p.scanline = preRender tv ∧ p.dot = 257 then { p with lineCount := 0, lineSpr0 := false } else p := by
  simp only [Ppu.spriteStep, if_neg h, Ppu.at_iff]

theorem Ppu.spriteStep_rest {p : Ppu} {tv : TvSystem} (h : ¬ p.scanline < 240)
    (hdot : ¬ (p.scanline = preRender tv ∧ p.dot = 257)) : p.spriteStep tv = p := by
  rw [Ppu.spriteStep_below h, if_neg hdot]

/-! Step 5, advance (R360 to R362). -/

theorem Ppu.skipsDot_iff (tv : TvSystem) (p : Ppu) :
    p.skipsDot tv = true ↔
      tv = .ntsc ∧ p.scanline = 261 ∧ p.dot = 338 ∧ p.oddFrame = true ∧ p.mask.getLsbD 3 = true := by
  cases tv <;> simp [Ppu.skipsDot, Ppu.at_iff, Ppu.showBg, preRender_eq, and_assoc]

theorem Ppu.advance_skip {p : Ppu} {tv : TvSystem} (h : p.skipsDot tv = true) : p.advance tv = { p with dot := 340 } := by
  rw [Ppu.advance, if_pos h]

theorem Ppu.advance_dot {p : Ppu} {tv : TvSystem} (h : ¬ p.skipsDot tv = true) (hdot : p.dot ≠ 340) :
    p.advance tv = { p with dot := p.dot + 1 } := by
  have hnot : ¬ p.dot + 1 = dotsPerLine := by unfold dotsPerLine; omega
  rw [Ppu.advance, if_neg h, if_neg hnot]

/-- At the end of a line there is no dot to skip, so the line goes on, or the frame ends. -/
theorem Ppu.advance_lineEnd {p : Ppu} (hdot : p.dot = 340) (tv : TvSystem) :
    p.advance tv = if p.scanline + 1 = linesPerFrame tv then { p with dot := 0 }.frameWrap
      else { p with dot := 0, scanline := p.scanline + 1 } := by
  have hskip : ¬ p.skipsDot tv = true := by
    rw [Ppu.skipsDot_iff]
    omega
  have hend : p.dot + 1 = dotsPerLine := by rw [hdot]; rfl
  rw [Ppu.advance, if_neg hskip, if_pos hend]
  rfl

/-- The advance changes the position, the odd-frame flag, the finished framebuffer and its ready flag, at most. -/
theorem Ppu.advance_frame (tv : TvSystem) (p : Ppu) :
    p.advance tv = { p with
      dot := (p.advance tv).dot, scanline := (p.advance tv).scanline, oddFrame := (p.advance tv).oddFrame,
      doneFb := (p.advance tv).doneFb, frameReady := (p.advance tv).frameReady } := by
  by_cases hskip : p.skipsDot tv = true
  · rw [Ppu.advance_skip hskip]
  · by_cases hdot : p.dot = 340
    · rw [Ppu.advance_lineEnd hdot]
      split <;> rfl
    · rw [Ppu.advance_dot hskip hdot]

/-! The five steps together. -/

/-- The PPU after the first four steps of a tick: all but the advance of its position. -/
def State.scrolled (s : State) : Ppu := (s.drawn.ppu.spriteStep s.cfg.header.tv).scrollStep s.cfg.header.tv

/-- The sprite step changes the sprite evaluation's registers and memories, the latched sprites and the overflow flag, at most. -/
theorem Ppu.spriteStep_frame (tv : TvSystem) (p : Ppu) :
    p.spriteStep tv = { p with
      overflow := (p.spriteStep tv).overflow, secOam := (p.spriteStep tv).secOam, evN := (p.spriteStep tv).evN,
      evM := (p.spriteStep tv).evM, evFound := (p.spriteStep tv).evFound, evPhase := (p.spriteStep tv).evPhase,
      evLatch := (p.spriteStep tv).evLatch, evSpr0 := (p.spriteStep tv).evSpr0, lineSpr := (p.spriteStep tv).lineSpr,
      lineCount := (p.spriteStep tv).lineCount, lineSpr0 := (p.spriteStep tv).lineSpr0 } := by
  by_cases h : p.scanline < 240
  · rw [Ppu.spriteStep_visible h]
    exact p.evaluate_frame
  · rw [Ppu.spriteStep_below h]
    split <;> rfl

/-- The fields of the PPU that only the flag step and the pixel step write, the scroll address, and those no step before the
advance writes. -/
theorem State.scrolled_frame (s : State) :
    s.scrolled = { s.drawn.ppu.spriteStep s.cfg.header.tv with
      ctrl := s.ppu.ctrl, mask := s.ppu.mask, oam := s.ppu.oam, vblank := (s.flagStep s.cfg.header.tv).ppu.vblank,
      suppressVbl := (s.flagStep s.cfg.header.tv).ppu.suppressVbl, spr0Hit := s.drawn.ppu.spr0Hit, fb := s.drawn.ppu.fb,
      v := s.ppu.scrolledV s.cfg.header.tv, dot := s.ppu.dot, scanline := s.ppu.scanline, oddFrame := s.ppu.oddFrame,
      doneFb := s.ppu.doneFb, frameReady := s.ppu.frameReady } := by
  rw [State.scrolled, Ppu.scrollStep, Ppu.spriteStep_frame, State.drawn_frame]
  rfl

theorem State.ppuTick_ppu (s : State) : s.ppuTick.ppu = s.scrolled.advance s.cfg.header.tv := rfl

theorem State.ppuTick_cpu (s : State) : s.ppuTick.cpu = (s.flagStep s.cfg.header.tv).cpu := by
  rw [show s.ppuTick.cpu = s.drawn.cpu from rfl, State.drawn_frame]

theorem State.ppuTick_frame (s : State) :
    s.ppuTick.ppu = { s.scrolled with
      dot := s.ppuTick.ppu.dot, scanline := s.ppuTick.ppu.scanline, oddFrame := s.ppuTick.ppu.oddFrame,
      doneFb := s.ppuTick.ppu.doneFb, frameReady := s.ppuTick.ppu.frameReady } :=
  s.scrolled.advance_frame s.cfg.header.tv

@[simp] theorem State.scrolled_dot (s : State) : s.scrolled.dot = s.ppu.dot := by rw [s.scrolled_frame]
@[simp] theorem State.scrolled_scanline (s : State) : s.scrolled.scanline = s.ppu.scanline := by rw [s.scrolled_frame]
@[simp] theorem State.scrolled_oddFrame (s : State) : s.scrolled.oddFrame = s.ppu.oddFrame := by rw [s.scrolled_frame]
@[simp] theorem State.scrolled_doneFb (s : State) : s.scrolled.doneFb = s.ppu.doneFb := by rw [s.scrolled_frame]
@[simp] theorem State.scrolled_frameReady (s : State) : s.scrolled.frameReady = s.ppu.frameReady := by rw [s.scrolled_frame]

theorem State.ppuTick_vblank (s : State) : s.ppuTick.ppu.vblank = (s.flagStep s.cfg.header.tv).ppu.vblank := by
  rw [s.ppuTick_frame, s.scrolled_frame]

theorem State.ppuTick_suppressVbl (s : State) :
    s.ppuTick.ppu.suppressVbl = (s.flagStep s.cfg.header.tv).ppu.suppressVbl := by
  rw [s.ppuTick_frame, s.scrolled_frame]

theorem State.ppuTick_spr0Hit (s : State) : s.ppuTick.ppu.spr0Hit = s.drawn.ppu.spr0Hit := by
  rw [s.ppuTick_frame, s.scrolled_frame]

theorem State.ppuTick_fb (s : State) : s.ppuTick.ppu.fb = s.drawn.ppu.fb := by
  rw [s.ppuTick_frame, s.scrolled_frame]

theorem State.ppuTick_overflow (s : State) :
    s.ppuTick.ppu.overflow = (s.drawn.ppu.spriteStep s.cfg.header.tv).overflow := by
  rw [s.ppuTick_frame, s.scrolled_frame]

theorem State.ppuTick_v (s : State) : s.ppuTick.ppu.v = s.ppu.scrolledV s.cfg.header.tv := by
  rw [s.ppuTick_frame, s.scrolled_frame]

/-! The position after a tick (R360 to R362). -/

theorem State.scrolled_skipsDot (s : State) (tv : TvSystem) : s.scrolled.skipsDot tv = s.ppu.skipsDot tv := by
  rw [State.scrolled_frame]
  rfl

theorem State.ppuTick_skip {s : State} (h : s.ppu.skipsDot s.cfg.header.tv = true) :
    s.ppuTick.ppu = { s.scrolled with dot := 340 } := by
  rw [State.ppuTick_ppu, Ppu.advance_skip (by rwa [State.scrolled_skipsDot])]

theorem State.ppuTick_dot {s : State} (h : ¬ s.ppu.skipsDot s.cfg.header.tv = true) (hdot : s.ppu.dot ≠ 340) :
    s.ppuTick.ppu = { s.scrolled with dot := s.ppu.dot + 1 } := by
  rw [State.ppuTick_ppu, Ppu.advance_dot (by rwa [State.scrolled_skipsDot]) (by rwa [State.scrolled_dot]), State.scrolled_dot]

theorem State.ppuTick_lineEnd {s : State} (hdot : s.ppu.dot = 340)
    (hline : s.ppu.scanline + 1 ≠ linesPerFrame s.cfg.header.tv) :
    s.ppuTick.ppu = { s.scrolled with dot := 0, scanline := s.ppu.scanline + 1 } := by
  rw [State.ppuTick_ppu, Ppu.advance_lineEnd (s.scrolled_dot.trans hdot), State.scrolled_scanline, if_neg hline]

theorem State.ppuTick_frameEnd {s : State} (hdot : s.ppu.dot = 340)
    (hline : s.ppu.scanline + 1 = linesPerFrame s.cfg.header.tv) :
    s.ppuTick.ppu = { s.scrolled with dot := 0 }.frameWrap := by
  rw [State.ppuTick_ppu, Ppu.advance_lineEnd (s.scrolled_dot.trans hdot), if_pos (by rwa [State.scrolled_scanline])]

/-- `n` ticks after the start of a frame, with the vblank flag down and not suppressed, up to the tick that raises the flag. -/
def BeforeVblank (n : Nat) (p : Ppu) : Prop :=
  dotsPerLine * p.scanline + p.dot = n ∧ p.dot < dotsPerLine ∧ p.vblank = false ∧ p.suppressVbl = false

theorem ppuTick_beforeVblank {n : Nat} {s : State} (hn : n < 82182) (h : BeforeVblank n s.ppu) :
    BeforeVblank (n + 1) s.ppuTick.ppu := by
  unfold BeforeVblank dotsPerLine at *
  obtain ⟨hpos, hdot, hvbl, hsup⟩ := h
  have hpre := vblankLine_lt_preRender s.cfg.header.tv
  have hflags : s.flagStep s.cfg.header.tv = s := State.flagStep_elsewhere (by omega) (by omega)
  have hskip : ¬ s.ppu.skipsDot s.cfg.header.tv = true := by
    rw [Ppu.skipsDot_iff]
    omega
  refine ⟨?position, ?dot, by rw [State.ppuTick_vblank, hflags, hvbl], by rw [State.ppuTick_suppressVbl, hflags, hsup]⟩
  all_goals
    by_cases hend : s.ppu.dot = 340
    · have hline : s.ppu.scanline + 1 ≠ linesPerFrame s.cfg.header.tv := by
        rw [linesPerFrame_eq]
        split <;> omega
      rw [State.ppuTick_lineEnd hend hline]
      dsimp only
      omega
    · rw [State.ppuTick_dot hskip hend]
      have hline := s.scrolled_scanline
      dsimp only
      omega

theorem iterate_ppuTick_beforeVblank {s : State} (h : BeforeVblank 0 s.ppu) (n : Nat) (hn : n ≤ 82182) :
    BeforeVblank n (State.ppuTick^[n] s).ppu := by
  induction n with
  | zero => exact h
  | succ n ih =>
    rw [Function.iterate_succ_apply']
    exact ppuTick_beforeVblank (by omega) (ih (by omega))

/-- The tick at (241, 1) raises the flag. -/
theorem ppuTick_vblank_of_beforeVblank {s : State} (h : BeforeVblank 82182 s.ppu) : s.ppuTick.ppu.vblank = true := by
  unfold BeforeVblank dotsPerLine at h
  obtain ⟨hpos, hdot, -, hsup⟩ := h
  rw [State.ppuTick_vblank, State.flagStep_vblankDot (by omega) (by omega), State.startVblank_eq, hsup]
  exact Bool.or_true _

/-- Settles O47: one tick by the cases of the advance; the ticks up to the vblank flag by induction, with the position and the flag's
two registers as the invariant. -/
theorem ppuPosition : Obligations.PpuPosition := by
  refine ⟨fun s => ?_, fun s hdot hline hvbl hsup => ?_⟩
  · intro p q lines skips
    have hlines : lines = linesPerFrame s.cfg.header.tv := (linesPerFrame_eq _).symm
    have hskips : skips ↔ p.skipsDot s.cfg.header.tv = true := (p.skipsDot_iff _).symm
    rw [hlines, hskips]
    refine ⟨fun h => ?_, fun h hdot => ?_, fun hdot hline => ?_, fun hdot hline => ?_⟩
    · simp [q, p, State.ppuTick_skip h]
    · simp [q, p, State.ppuTick_dot h hdot]
    · simp [q, p, State.ppuTick_lineEnd hdot hline]
    · simp [q, p, State.ppuTick_frameEnd hdot hline, Ppu.frameWrap]
  · have hstart : BeforeVblank 0 s.ppu := ⟨by rw [hdot, hline]; rfl, by rw [hdot]; decide, hvbl, hsup⟩
    refine ⟨fun n hn => ?_, ?_⟩
    · obtain ⟨-, -, hvbl, -⟩ := iterate_ppuTick_beforeVblank hstart n (by omega)
      exact hvbl
    · rw [Function.iterate_succ_apply']
      exact ppuTick_vblank_of_beforeVblank (iterate_ppuTick_beforeVblank hstart 82182 le_rfl)

/-! The vblank flag and its suppression (R352, R353, R355). -/

theorem ppuTick_at_vblankDot {s : State} (hline : s.ppu.scanline = 241) (hdot : s.ppu.dot = 1) :
    s.ppuTick.ppu.vblank = (s.ppu.vblank || !s.ppu.suppressVbl) ∧ s.ppuTick.ppu.suppressVbl = false ∧
    s.ppuTick.cpu =
      { s.cpu with nmiPending := s.cpu.nmiPending || (!s.ppu.suppressVbl && s.ppu.ctrl.getLsbD 7) } := by
  rw [State.ppuTick_vblank, State.ppuTick_suppressVbl, State.ppuTick_cpu, State.flagStep_vblankDot hline hdot,
    State.startVblank_eq]
  exact ⟨rfl, rfl, rfl⟩

theorem ppuTick_at_preRenderDot {s : State} (hline : s.ppu.scanline = preRender s.cfg.header.tv) (hdot : s.ppu.dot = 1) :
    s.ppuTick.ppu.vblank = false ∧ s.ppuTick.ppu.spr0Hit = false ∧ s.ppuTick.ppu.overflow = false := by
  have hpre := vblankLine_lt_preRender s.cfg.header.tv
  have hdrawn : s.drawn = s.setPpu s.ppu.clearStatus := by
    rw [State.drawn_blank (by omega), State.flagStep_preRenderDot hline hdot]
  have hsprites : s.ppu.clearStatus.spriteStep s.cfg.header.tv = s.ppu.clearStatus :=
    Ppu.spriteStep_rest (show ¬ s.ppu.scanline < 240 by omega) (show ¬ (s.ppu.scanline = _ ∧ s.ppu.dot = 257) by omega)
  rw [State.ppuTick_vblank, State.ppuTick_spr0Hit, State.ppuTick_overflow, State.flagStep_preRenderDot hline hdot, hdrawn,
    State.setPpu_ppu, hsprites]
  exact ⟨rfl, rfl, rfl⟩

theorem ppuTick_elsewhere {s : State} (hvbl : ¬ (s.ppu.scanline = 241 ∧ s.ppu.dot = 1)) :
    s.ppuTick.cpu = s.cpu ∧ s.ppuTick.ppu.suppressVbl = s.ppu.suppressVbl ∧
    (¬ (s.ppu.scanline = preRender s.cfg.header.tv ∧ s.ppu.dot = 1) → s.ppuTick.ppu.vblank = s.ppu.vblank) := by
  rw [State.ppuTick_vblank, State.ppuTick_suppressVbl, State.ppuTick_cpu, State.flagStep_of_not_vblankDot hvbl]
  split
  · next hpre => exact ⟨rfl, rfl, fun h => absurd hpre h⟩
  · exact ⟨rfl, rfl, fun _ => rfl⟩

/-- Settles O48: the three places of the flag step; a status read at (241, 1) leaves a state whose tick is suppressed. -/
theorem vblankAndSuppression : Obligations.VblankAndSuppression := by
  intro s p q last
  have hlast : last = preRender s.cfg.header.tv := (preRender_eq _).symm
  rw [hlast]
  refine ⟨ppuTick_at_vblankDot, ppuTick_at_preRenderDot, ppuTick_elsewhere, fun hline hdot hvbl => ?_⟩
  intro r
  have hread : r.2 = _ := readStatus_state s
  obtain ⟨hvblank, -, hcpu⟩ := ppuTick_at_vblankDot (s := r.2) (by rw [hread]; exact hline) (by rw [hread]; exact hdot)
  refine ⟨?value, ?flag, ?nmi⟩
  case value =>
    have hvalue : r.1.toNat / 32 = _ := readStatus_value s
    have hhit := bitNat_le_one s.ppu.spr0Hit
    have hoverflow := bitNat_le_one s.ppu.overflow
    rw [show s.ppu.vblank = false from hvbl, show bitNat false = 0 from rfl] at hvalue
    rw [getLsbD_seven_eq_decide, decide_eq_false_iff_not]
    omega
  case flag => rw [hvblank, hread]; simp [p, hline, hdot]
  case nmi => rw [hcpu, hread]; simp [p, hline, hdot]

end Sys2Proof.Machine
end

section
/-! SUPPORT. The proof of the statement about the scroll address (50_ppu.md R356 to R359): the increments and the copies in whole
numbers, and which of them a tick applies. -/

namespace Sys2Proof.Machine

theorem bitSlice_eq_iff {w : Nat} (x : BitVec w) (start len : Nat) (k : BitVec len) :
    x.extractLsb' start len = k ↔ x.toNat / 2 ^ start % 2 ^ len = k.toNat := by
  rw [← BitVec.toNat_inj, toNat_bitSlice]

theorem toNat_bitSlice_add_one {w : Nat} (x : BitVec w) (start len : Nat) (hlen : 0 < len) :
    (x.extractLsb' start len + 1).toNat = (x.toNat / 2 ^ start + 1) % 2 ^ len := by
  have hone : (1 : BitVec len).toNat = 1 := BitVec.toNat_one hlen
  rw [BitVec.toNat_add, hone, toNat_bitSlice, Nat.mod_add_mod]

theorem toNat_complement_bit {w : Nat} (x : BitVec w) (start : Nat) :
    (~~~(x.extractLsb' start 1)).toNat = 1 - x.toNat / 2 ^ start % 2 := by
  rw [BitVec.toNat_not, toNat_bitSlice]; rfl

theorem toNat_incCoarseX (v : BitVec 15) :
    (incCoarseX v).toNat = if v.toNat % 32 = 31 then
      v.toNat / 4096 * 4096 + v.toNat / 2048 % 2 * 2048 + (1 - v.toNat / 1024 % 2) * 1024 + v.toNat / 32 % 32 * 32
    else v.toNat + 1 := by
  have hlast : v.extractLsb' 0 5 = 31 ↔ v.toNat % 32 = 31 := by
    rw [bitSlice_eq_iff, Nat.pow_zero, Nat.div_one]
    rfl
  simp only [incCoarseX, hlast]
  split
  · rw [toNat_append_eq_add]
    simp only [toNat_append_eq_add, toNat_bitSlice, toNat_complement_bit, BitVec.toNat_ofNat, Nat.reducePow]
    omega
  · rw [toNat_append_eq_add, toNat_bitSlice_add_one _ _ _ (by decide), toNat_bitSlice]
    omega

theorem toNat_incY (v : BitVec 15) :
    (incY v).toNat =
      if v.toNat / 4096 < 7 then v.toNat + 4096
      else if v.toNat / 32 % 32 = 29 then (1 - v.toNat / 2048 % 2) * 2048 + v.toNat / 1024 % 2 * 1024 + v.toNat % 32
      else if v.toNat / 32 % 32 = 31 then v.toNat / 2048 % 2 * 2048 + v.toNat / 1024 % 2 * 1024 + v.toNat % 32
      else v.toNat / 2048 % 2 * 2048 + v.toNat / 1024 % 2 * 1024 + (v.toNat / 32 % 32 + 1) * 32 + v.toNat % 32 := by
  have hfine : (v.extractLsb' 12 3).toNat = v.toNat / 4096 := by
    have := v.isLt
    rw [toNat_bitSlice]
    omega
  have hcoarse (k : BitVec 5) : v.extractLsb' 5 5 = k ↔ v.toNat / 32 % 32 = k.toNat := bitSlice_eq_iff v 5 5 k
  simp only [incY, hfine, hcoarse, BitVec.reduceToNat]
  split_ifs
  · rw [toNat_append_eq_add, toNat_bitSlice_add_one _ _ _ (by decide), toNat_bitSlice]
    omega
  · rw [toNat_append_eq_add]
    simp only [toNat_append_eq_add, toNat_bitSlice, toNat_complement_bit, BitVec.toNat_ofNat, Nat.reducePow]
    omega
  · rw [toNat_append_eq_add]
    simp only [toNat_append_eq_add, toNat_bitSlice, BitVec.toNat_ofNat, Nat.reducePow]
    omega
  · rw [toNat_append_eq_add, toNat_append_eq_add, toNat_bitSlice_add_one _ _ _ (by decide)]
    simp only [toNat_append_eq_add, toNat_bitSlice, BitVec.toNat_ofNat, Nat.reducePow]
    omega

theorem copyHorizontal_eq_ofNat (v t : BitVec 15) :
    copyHorizontal v t =
      BitVec.ofNat 15 (v.toNat / 2048 * 2048 + t.toNat / 1024 % 2 * 1024 + v.toNat / 32 % 32 * 32 + t.toNat % 32) := by
  apply eq_ofNat_of_toNat_mod
  rw [copyHorizontal, toNat_append_eq_add]
  simp only [toNat_append_eq_add, toNat_bitSlice, Nat.reducePow]
  omega

theorem copyVertical_eq_ofNat (v t : BitVec 15) :
    copyVertical v t =
      BitVec.ofNat 15 (t.toNat / 2048 * 2048 + v.toNat / 1024 % 2 * 1024 + t.toNat / 32 % 32 * 32 + v.toNat % 32) := by
  apply eq_ofNat_of_toNat_mod
  rw [copyVertical, toNat_append_eq_add]
  simp only [toNat_append_eq_add, toNat_bitSlice, Nat.reducePow]
  omega

/-- On a line that scrolls, a dot does at most one thing to `v`, but for dot 256, which does two (R356 to R359). -/
theorem Ppu.scrolledV_of_rendering {p : Ppu} {tv : TvSystem} (hr : p.rendering = true)
    (hline : p.scanline < 240 ∨ p.scanline = preRender tv) :
    p.scrolledV tv =
      if p.dot = 256 then incY (incCoarseX p.v)
      else if 8 ≤ p.dot ∧ p.dot < 256 ∧ p.dot % 8 = 0 then incCoarseX p.v
      else if p.dot = 257 then copyHorizontal p.v p.t
      else if p.dot = 280 ∧ p.scanline = preRender tv then copyVertical p.v p.t
      else p.v := by
  rw [Ppu.scrolledV, if_pos ⟨hr, hline⟩]
  by_cases h256 : p.dot = 256
  · simp [h256]
  · have hcoarse : (8 ≤ p.dot ∧ p.dot ≤ 256 ∧ p.dot % 8 = 0) ↔ (8 ≤ p.dot ∧ p.dot < 256 ∧ p.dot % 8 = 0) := by omega
    simp only [hcoarse, h256, if_false]
    by_cases hstep : 8 ≤ p.dot ∧ p.dot < 256 ∧ p.dot % 8 = 0
    · simp [hstep, show p.dot ≠ 257 by omega, show p.dot ≠ 280 by omega]
    · by_cases h257 : p.dot = 257
      · simp [h257]
      · simp only [hstep, h257, if_false, and_comm (a := p.dot = 280)]

theorem Ppu.scrolledV_rest {p : Ppu} {tv : TvSystem}
    (h : ¬ (p.rendering = true ∧ (p.scanline < 240 ∨ p.scanline = preRender tv))) : p.scrolledV tv = p.v := by
  rw [Ppu.scrolledV, if_neg h]

/-- Settles O49: the increments in whole numbers; after a tick `v` is what the scroll step makes of it. -/
theorem scrollStep : Obligations.ScrollStep := by
  refine ⟨fun v => ⟨toNat_incCoarseX v, toNat_incY v⟩, fun s => ?_⟩
  intro p last horizontal vertical rendering
  have hlast : last = preRender s.cfg.header.tv := (preRender_eq _).symm
  have hrendering : rendering ↔ p.rendering = true := p.rendering_iff.symm
  have hh (v : BitVec 15) : horizontal v = copyHorizontal v p.t := (copyHorizontal_eq_ofNat v p.t).symm
  have hv (v : BitVec 15) : vertical v = copyVertical v p.t := (copyVertical_eq_ofNat v p.t).symm
  simp only [hlast, hrendering, hh, hv, State.ppuTick_v]
  exact ⟨Ppu.scrolledV_of_rendering, Ppu.scrolledV_rest⟩

end Sys2Proof.Machine
end

section
/-! SUPPORT. The proofs of the statements about the colour of a pixel and its place in the framebuffer (50_ppu.md R323, R380) and about
the background pixel (R372, R373): masks and addresses in whole numbers. -/

namespace Sys2Proof.Machine

/-! Masks and disjoint bits, in whole numbers. -/

/-- A mask of `len` ones from bit `start` on keeps those bits in their place. -/
theorem toNat_and_fieldMask {w : Nat} (x m : BitVec w) (start len : Nat) (h : m.toNat = (2 ^ len - 1) * 2 ^ start) :
    (x &&& m).toNat = x.toNat / 2 ^ start % 2 ^ len * 2 ^ start := by
  rw [BitVec.toNat_and, h, ← Nat.and_two_pow_sub_one_eq_mod, ← Nat.shiftRight_eq_div_pow]
  apply Nat.eq_of_testBit_eq
  intro i
  rw [Nat.testBit_and, Nat.testBit_mul_two_pow, Nat.testBit_mul_two_pow, Nat.testBit_and, Nat.testBit_shiftRight]
  by_cases hi : start ≤ i
  · simp [hi, Nat.add_sub_cancel' hi]
  · simp [hi]

/-- Bits below the lowest set bit of `a` add to it. -/
theorem or_eq_add_of_dvd {a b : Nat} (k : Nat) (ha : 2 ^ k ∣ a) (hb : b < 2 ^ k) : a ||| b = a + b := by
  obtain ⟨q, rfl⟩ := ha
  exact (Nat.two_pow_add_eq_or_of_lt hb q).symm

/-! The colour of a palette index (R380). -/

theorem toNat_colourIndex (p : Ppu) (idx : BitVec 5) :
    (p.colourIndex idx).toNat =
      if p.mask.getLsbD 0 = true then (p.palette.read (palIndex (idx.zeroExtend 14))).toNat % 64 / 16 * 16
      else (p.palette.read (palIndex (idx.zeroExtend 14))).toNat % 64 := by
  rw [Ppu.colourIndex, ← show p.gray = p.mask.getLsbD 0 from rfl]
  by_cases hgray : p.gray = true
  · rw [if_pos hgray, if_pos hgray, toNat_and_fieldMask _ 0x30#8 4 2 rfl, toNat_and_lowMask _ 0x3F#8 6 rfl]
    omega
  · rw [if_neg hgray, if_neg hgray]
    exact toNat_and_lowMask _ 0x3F#8 6 rfl

theorem Ppu.emph_eq_ofNat (p : Ppu) : p.emph = BitVec.ofNat 3 (p.mask.toNat / 32) :=
  eq_ofNat_of_toNat_mod (toNat_bitSlice p.mask 5 3)

theorem emphasis_zero (c : Rgb) : emphasis c 0 = c := if_pos rfl

/-- With the emphasis bits 0 the colour is the palette table's triple. -/
theorem State.colour_of_no_emphasis {s : State} (h : s.ppu.mask.toNat < 32) (idx : BitVec 5) :
    s.colour idx = ⟨s.cfg.ntscPalette.read (3 * (s.ppu.colourIndex idx).toNat),
      s.cfg.ntscPalette.read (3 * (s.ppu.colourIndex idx).toNat + 1),
      s.cfg.ntscPalette.read (3 * (s.ppu.colourIndex idx).toNat + 2)⟩ := by
  have hemph : s.ppu.emph = 0 := by rw [Ppu.emph_eq_ofNat, Nat.div_eq_of_lt h]; rfl
  rw [State.colour, hemph, emphasis_zero]

/-! The framebuffer after a tick (R323). -/

theorem read_writePixel (fb : Memory) (x y : Nat) (c : Rgb) (k : Nat) :
    (writePixel fb x y c).read k =
      if k = 4 * (256 * y + x) then c.r else if k = 4 * (256 * y + x) + 1 then c.g
      else if k = 4 * (256 * y + x) + 2 then c.b else if k = 4 * (256 * y + x) + 3 then 0xFF else fb.read k := by
  simp only [writePixel, Memory.read_write]
  generalize 4 * (256 * y + x) = o
  by_cases h0 : k = o
  · simp [h0]
  · by_cases h1 : k = o + 1
    · simp [h1]
    · by_cases h2 : k = o + 2
      · simp [h2]
      · simp only [h0, h1, h2, if_false]

/-- The pixel a tick draws on a visible dot, with the flag and the framebuffer it leaves. -/
theorem State.drawn_pixel {s : State} (h : s.ppu.scanline < 240 ∧ 1 ≤ s.ppu.dot ∧ s.ppu.dot ≤ 256) :
    s.drawn = s.renderPixel (s.ppu.dot - 1) s.ppu.scanline := by
  rw [State.drawn_visible h.1, State.pixelStep_visible h]

/-- Settles O50: the colour by its definition, with the model's `emphasis` as the fixed function; the framebuffer after a tick is the
one the pixel step leaves. -/
theorem onePixelPerDot : Obligations.OnePixelPerDot := by
  refine ⟨⟨emphasis, emphasis_zero, fun s idx => ?_⟩, fun s idx h => State.colour_of_no_emphasis h idx, fun s => ?_⟩
  · intro entry c
    have hidx : idx.zeroExtend 14 = BitVec.ofNat 14 idx.toNat := (BitVec.ofNat_toNat 14 idx).symm
    have hc : (s.ppu.colourIndex idx).toNat = c := by rw [toNat_colourIndex, hidx]
    rw [State.colour, hc, Ppu.emph_eq_ofNat]
  · intro p o visible c
    rw [State.ppuTick_fb]
    refine ⟨fun h k => ?_, fun h => ?_⟩
    · rw [State.drawn_pixel h]
      exact read_writePixel p.fb (p.dot - 1) p.scanline c k
    · rw [State.drawn_blank h, State.flagStep_frame]

/-! The background pixel (R372, R373). -/

theorem nametableAddr_eq_ofNat (vv : BitVec 15) : nametableAddr vv = BitVec.ofNat 14 (0x2000 + vv.toNat % 4096) := by
  apply eq_ofNat_of_toNat_mod
  rw [nametableAddr, BitVec.toNat_or, toNat_and_lowMask _ 0x0FFF#14 12 rfl, toNat_bitSlice,
    or_eq_add_of_dvd 12 (by decide) (Nat.mod_lt _ (by decide))]
  simp only [BitVec.toNat_ofNat]
  omega

theorem attributeAddr_eq_ofNat (vv : BitVec 15) :
    attributeAddr vv =
      BitVec.ofNat 14 (0x23C0 + vv.toNat / 1024 % 4 * 1024 + vv.toNat / 128 % 8 * 8 + vv.toNat / 4 % 8) := by
  have htable (a : Nat) (ha : a < 4) : 0x23C0 ||| a * 1024 = 0x23C0 + a * 1024 := by interval_cases a <;> rfl
  apply eq_ofNat_of_toNat_mod
  rw [attributeAddr, toNat_bitSlice]
  simp only [BitVec.toNat_or, toNat_and_fieldMask _ 0x0C00#15 10 2 rfl, toNat_and_fieldMask _ 0x38#15 3 3 rfl,
    toNat_and_lowMask _ 0x07#15 3 rfl, BitVec.toNat_ushiftRight, Nat.shiftRight_eq_div_pow, BitVec.toNat_ofNat, Nat.div_div_eq_div_mul,
    Nat.reducePow, Nat.reduceMod, Nat.reduceMul, Nat.div_one]
  rw [htable _ (by omega), or_eq_add_of_dvd 6 (a := 0x23C0 + vv.toNat / 1024 % 4 * 1024) (by omega) (by omega),
    or_eq_add_of_dvd 3 (by omega) (by omega)]

theorem attributeShift_eq (vv : BitVec 15) : attributeShift vv = 4 * (vv.toNat / 64 % 2) + 2 * (vv.toNat / 2 % 2) := by
  rw [attributeShift, BitVec.toNat_or, toNat_and_fieldMask _ 4#15 2 1 rfl, toNat_and_fieldMask _ 2#15 1 1 rfl,
    BitVec.toNat_ushiftRight, Nat.shiftRight_eq_div_pow, or_eq_add_of_dvd 2 (by omega) (by omega)]
  omega

theorem bgPatternAddr_eq_ofNat (p : Ppu) (tile : Byte) (vv : BitVec 15) :
    bgPatternAddr p tile vv = BitVec.ofNat 14 (bitNat (p.ctrl.getLsbD 4) * 4096 + tile.toNat * 16 + vv.toNat / 4096) := by
  have htable := bitNat_le_one (p.ctrl.getLsbD 4)
  apply eq_ofNat_of_toNat_mod
  rw [bgPatternAddr, toNat_append_eq_add]
  simp only [toNat_append_eq_add, toNat_ofBool_eq_bitNat, Ppu.bgTable, toNat_bitSlice, BitVec.toNat_ofNat, Nat.reducePow]
  omega

theorem toNat_patternPixel (lo hi : Byte) (col : Nat) :
    (patternPixel lo hi col).toNat = 2 * (hi.toNat / 2 ^ (7 - col) % 2) + lo.toNat / 2 ^ (7 - col) % 2 := by
  have hbit (v : Byte) (k : Nat) : bitNat (v.getLsbD k) = v.toNat / 2 ^ k % 2 := by
    rw [getLsbD_eq_decide, bitNat]
    rcases Nat.mod_two_eq_zero_or_one (v.toNat / 2 ^ k) with h | h <;> simp [h]
  rw [patternPixel, toNat_append_eq_add, toNat_ofBool_eq_bitNat, toNat_ofBool_eq_bitNat, hbit, hbit]
  omega

/-- A layer is hidden at a column where it is off, or in the left eight columns where they are clipped. -/
theorem hidden_iff (on left : Bool) (x : Nat) :
    (on = false ∨ (x < 8 ∧ left = false)) ↔ ¬ (on = true ∧ (8 ≤ x ∨ left = true)) := by
  rw [not_and_or, not_or, Nat.not_le, Bool.not_eq_true, Bool.not_eq_true]

theorem State.bgPixel_hidden {s : State} {x : Nat}
    (h : ¬ (s.ppu.mask.getLsbD 3 = true ∧ (8 ≤ x ∨ s.ppu.mask.getLsbD 1 = true))) : s.bgPixel x = ⟨0, 0⟩ :=
  if_pos ((hidden_iff s.ppu.showBg s.ppu.showBgLeft x).mpr h)

/-- The background pixel of a column, from its tile, its two pattern bytes and the byte that holds its palette (R372). -/
theorem State.bgPixel_shown {s : State} {x : Nat}
    (h : s.ppu.mask.getLsbD 3 = true ∧ (8 ≤ x ∨ s.ppu.mask.getLsbD 1 = true)) :
    s.bgPixel x =
      let fx := s.ppu.x.toNat + x % 8
      let vv := if 8 ≤ fx then incCoarseX s.ppu.v else s.ppu.v
      let pa := bgPatternAddr s.ppu (s.ppuRead (nametableAddr vv)) vv
      ⟨patternPixel (s.ppuRead pa) (s.ppuRead (pa + 8)) (fx % 8),
        (s.ppuRead (attributeAddr vv) >>> attributeShift vv).extractLsb' 0 2⟩ := by
  have hshown : ¬ (s.ppu.showBg = false ∨ (x < 8 ∧ s.ppu.showBgLeft = false)) := fun hh =>
    (hidden_iff _ _ x).mp hh h
  have hfx : (if 8 ≤ s.ppu.x.toNat + x % 8 then s.ppu.x.toNat + x % 8 - 8 else s.ppu.x.toNat + x % 8) =
      (s.ppu.x.toNat + x % 8) % 8 := by
    have := s.ppu.x.isLt
    split <;> omega
  simp only [State.bgPixel, if_neg hshown, hfx]

/-- Settles O52: the pixel by its definition, every address and every field of bits in whole numbers. -/
theorem backgroundPixel : Obligations.BackgroundPixel := by
  intro s x p shown
  refine ⟨State.bgPixel_hidden, fun h => ?_⟩
  intro fx vv at14 tile pa quadrants
  have htile : (s.ppuRead (nametableAddr (if 8 ≤ fx then incCoarseX p.v else p.v))).toNat = tile := by
    rw [nametableAddr_eq_ofNat]
  have hpa : bgPatternAddr p (s.ppuRead (nametableAddr (if 8 ≤ fx then incCoarseX p.v else p.v)))
      (if 8 ≤ fx then incCoarseX p.v else p.v) = BitVec.ofNat 14 pa := by
    rw [bgPatternAddr_eq_ofNat, htile]
  have hpa8 : BitVec.ofNat 14 pa + 8 = BitVec.ofNat 14 (pa + 8) := (BitVec.ofNat_add pa 8).symm
  rw [State.bgPixel_shown h]
  refine ⟨?pixel, ?palette⟩
  case pixel =>
    rw [toNat_patternPixel, hpa, hpa8]
  case palette =>
    rw [toNat_bitSlice, BitVec.toNat_ushiftRight, Nat.shiftRight_eq_div_pow, attributeAddr_eq_ofNat, attributeShift_eq,
      Nat.pow_zero, Nat.div_one]
    rfl

end Sys2Proof.Machine
end

section
/-! SUPPORT. The proof of the statement about the sprite pixel, compositing and the sprite-0 hit (50_ppu.md R375 to R380). -/

namespace Sys2Proof.Machine

/-! Compositing (R377). -/

theorem bitVec_eq_zero_iff {w : Nat} (x : BitVec w) : x = 0 ↔ x.toNat = 0 :=
  BitVec.toNat_inj.symm.trans (by rw [show (0 : BitVec w).toNat = 0 from BitVec.toNat_zero])

theorem toNat_backdropIndex (p : Ppu) :
    p.backdropIndex.toNat = if ¬ (p.mask.getLsbD 3 = true ∨ p.mask.getLsbD 4 = true) ∧ 0x3F00 ≤ p.v.toNat % 16384 then
      p.v.toNat % 32 else 0 := by
  have haddr : p.vAddr.toNat = p.v.toNat % 16384 := by rw [Ppu.vAddr_eq_ofNat, BitVec.toNat_ofNat]
  simp only [← p.rendering_iff, Bool.not_eq_true, ← haddr, Ppu.backdropIndex]
  split
  · rw [toNat_bitSlice, Nat.pow_zero, Nat.div_one]; rfl
  · rfl

/-- A palette index of a layer (0 the background, 1 the sprites), a palette and a pixel. -/
theorem toNat_layerIndex (layer : BitVec 1) (pal px : BitVec 2) :
    BitVec.toNat (w := 5) (layer ++ pal ++ px) = 16 * layer.toNat + 4 * pal.toNat + px.toNat := by
  rw [toNat_append_eq_add, toNat_append_eq_add]
  omega

theorem toNat_composite (p : Ppu) (bg : BgPixel) (sp : SpritePixel) :
    (p.composite bg sp).toNat =
      if bg.px.toNat = 0 ∧ sp.px.toNat = 0 then p.backdropIndex.toNat
      else if bg.px.toNat = 0 then 16 + 4 * sp.pal.toNat + sp.px.toNat
      else if sp.px.toNat = 0 then 4 * bg.pal.toNat + bg.px.toNat
      else if sp.behind = true then 4 * bg.pal.toNat + bg.px.toNat else 16 + 4 * sp.pal.toNat + sp.px.toNat := by
  have hbg : BitVec.toNat (w := 5) (0#1 ++ bg.pal ++ bg.px) = 4 * bg.pal.toNat + bg.px.toNat := by
    rw [toNat_layerIndex]; simp
  have hsp : BitVec.toNat (w := 5) (1#1 ++ sp.pal ++ sp.px) = 16 + 4 * sp.pal.toNat + sp.px.toNat := toNat_layerIndex _ _ _
  simp only [Ppu.composite, bitVec_eq_zero_iff]
  by_cases hb : bg.px.toNat = 0
  · by_cases hf : sp.px.toNat = 0
    · simp only [hb, hf, if_true, and_self]
    · simp only [hb, hf, if_true, if_false, and_false, hsp]
  · by_cases hf : sp.px.toNat = 0
    · simp only [hb, hf, if_true, if_false, and_true, hbg]
    · simp only [hb, hf, if_false, and_self]
      split
      · exact hbg
      · exact hsp

/-! The sprite pattern address (R376). -/

theorem toNat_zeroExtend_shiftLeft {w : Nat} (x : BitVec w) (k : Nat) (hw : w ≤ 14) :
    ((x.zeroExtend 14) <<< k).toNat = x.toNat * 2 ^ k % 2 ^ 14 := by
  rw [BitVec.toNat_shiftLeft, BitVec.zeroExtend, BitVec.toNat_setWidth_of_le hw, Nat.shiftLeft_eq]

theorem toNat_spritePatternAddr_8 {p : Ppu} (h : p.ctrl.getLsbD 5 = false) (tile : Byte) (row : Nat) :
    (spritePatternAddr p tile row).toNat = (bitNat (p.ctrl.getLsbD 3) * 4096 ||| tile.toNat * 16 ||| row) % 16384 := by
  have h16 : ¬ p.spr16 = true := by rw [Ppu.spr16, h]; decide
  rw [spritePatternAddr, if_neg h16, BitVec.toNat_or, BitVec.toNat_or, toNat_zeroExtend_shiftLeft _ _ (by decide),
    toNat_zeroExtend_shiftLeft _ _ (by decide), toNat_ofBool_eq_bitNat, BitVec.ofInt_natCast, BitVec.toNat_ofNat,
    ← Nat.or_mod_two_pow, ← Nat.or_mod_two_pow]
  rfl

theorem toNat_and_evenMask (tile : Byte) : (tile &&& 0xFE#8).toNat = tile.toNat / 2 * 2 := by
  have := tile.isLt
  rw [toNat_and_fieldMask _ 0xFE#8 1 7 rfl]
  omega

theorem toNat_spritePatternAddr_16 {p : Ppu} (h : p.ctrl.getLsbD 5 = true) (tile : Byte) (row : Nat) :
    (spritePatternAddr p tile row).toNat =
      tile.toNat % 2 * 4096 + tile.toNat / 2 * 32 + (if 8 ≤ row then 16 else 0) + row % 8 := by
  have htile := tile.isLt
  have h16 : p.spr16 = true := h
  have hhalf : (if 8 ≤ (row : Int) then 16#14 else 0#14).toNat = if 8 ≤ row then 16 else 0 := by
    simp only [Nat.ofNat_le_cast]
    split <;> rfl
  have hrow : (BitVec.ofInt 14 row &&& 7#14).toNat = row % 8 := by
    rw [toNat_and_lowMask _ 7#14 3 rfl, BitVec.ofInt_natCast, BitVec.toNat_ofNat]
    omega
  have htable : tile.toNat % 2 ^ 1 * 2 ^ 12 % 2 ^ 14 = tile.toNat % 2 * 4096 := by omega
  have hpair : tile.toNat / 2 * 2 * 2 ^ 4 % 2 ^ 14 = tile.toNat / 2 * 32 := by omega
  rw [spritePatternAddr, if_pos h16, BitVec.toNat_or, BitVec.toNat_or, BitVec.toNat_or,
    toNat_zeroExtend_shiftLeft _ _ (by decide), toNat_zeroExtend_shiftLeft _ _ (by decide), toNat_and_lowMask _ 1#8 1 rfl,
    toNat_and_evenMask, hhalf, hrow, htable, hpair,
    or_eq_add_of_dvd 12 (a := tile.toNat % 2 * 4096) (by omega) (by omega),
    or_eq_add_of_dvd 5 (a := tile.toNat % 2 * 4096 + tile.toNat / 2 * 32) (by omega) (by split <;> omega),
    or_eq_add_of_dvd 3 (by split <;> omega) (by omega)]

/-! The sprite pixel of a column (R375). -/

/-- The pixel of the `i`-th latched sprite at column `x` of line `y`, in whole numbers; 0 where the sprite does not cover it. -/
def State.spriteNumber (s : State) (x y i : Nat) : Nat :=
  let byte (k : Nat) : Nat := (s.ppu.lineSpr.read (4 * i + k)).toNat
  let height : Int := if s.ppu.ctrl.getLsbD 5 then 16 else 8
  let col := if byte 2 / 64 % 2 = 1 then 7 - (x - byte 3) else x - byte 3
  let row : Int := if byte 2 / 128 % 2 = 1 then (height - 1) - ((y : Int) - 1 - byte 0) else (y : Int) - 1 - byte 0
  let pa := spritePatternAddr s.ppu (s.ppu.lineSpr.read (4 * i + 1)) row
  if x < byte 3 ∨ byte 3 + 7 < x then 0
  else 2 * ((s.ppuRead (pa + 8)).toNat / 2 ^ (7 - col) % 2) + (s.ppuRead pa).toNat / 2 ^ (7 - col) % 2

theorem spriteRow_eq (y : Nat) (p : Ppu) (sy attr : Byte) :
    spriteRow y sy p.spriteHeight (attr.getLsbD 7) =
      if attr.toNat / 128 % 2 = 1 then ((if p.ctrl.getLsbD 5 then 16 else 8 : Int) - 1) - ((y : Int) - 1 - sy.toNat)
      else (y : Int) - 1 - sy.toNat := by
  have hheight : (p.spriteHeight : Int) = if p.ctrl.getLsbD 5 then 16 else 8 := by
    rw [Ppu.spriteHeight, Ppu.spr16]
    split <;> rfl
  simp only [spriteRow, hheight, getLsbD_eq_decide, decide_eq_true_eq, Nat.reducePow]

/-- The pixel a latched sprite gives, by its number: none where the number is 0. -/
theorem State.spriteAt_eq (s : State) (x y i : Nat) :
    s.spriteAt x y i = if s.spriteNumber x y i = 0 then none else some
      { px := BitVec.ofNat 2 (s.spriteNumber x y i), pal := BitVec.ofNat 2 ((s.ppu.lineSpr.read (4 * i + 2)).toNat % 4),
        behind := decide ((s.ppu.lineSpr.read (4 * i + 2)).toNat / 32 % 2 = 1),
        isZero := decide (i = 0 ∧ s.ppu.lineSpr0 = true) } := by
  have hcover (sx : Nat) : (x < sx ∨ 7 < x - sx) ↔ (x < sx ∨ sx + 7 < x) := by omega
  have hpal (attr : Byte) : attr.extractLsb' 0 2 = BitVec.ofNat 2 (attr.toNat % 4) :=
    eq_ofNat_of_toNat_mod (by rw [toNat_bitSlice]; omega)
  have hzero : (i == 0 && s.ppu.lineSpr0) = decide (i = 0 ∧ s.ppu.lineSpr0 = true) := by
    rw [Bool.eq_iff_iff]
    simp
  simp only [State.spriteAt, State.spriteNumber, hcover, spriteRow_eq, Nat.add_zero, ← toNat_patternPixel]
  simp only [getLsbD_eq_decide, decide_eq_true_eq, Nat.reducePow, hpal, hzero, bitVec_eq_zero_iff]
  split
  · rfl
  · rw [BitVec.ofNat_toNat, BitVec.setWidth_eq]

theorem State.spritePixel_hidden {s : State} {x : Nat}
    (h : ¬ (s.ppu.mask.getLsbD 4 = true ∧ (8 ≤ x ∨ s.ppu.mask.getLsbD 2 = true))) (y : Nat) :
    s.spritePixel x y = .transparent := by
  have hhidden : ¬ (s.ppu.showSpr = true ∧ ¬ (x < 8 ∧ s.ppu.showSprLeft = false)) := by
    rcases (hidden_iff s.ppu.showSpr s.ppu.showSprLeft x).mpr h with hoff | hclipped
    · simp [hoff]
    · exact fun hh => hh.2 hclipped
  exact if_neg hhidden

theorem State.spritePixel_shown {s : State} {x : Nat}
    (h : s.ppu.mask.getLsbD 4 = true ∧ (8 ≤ x ∨ s.ppu.mask.getLsbD 2 = true)) (y : Nat) :
    s.spritePixel x y = ((List.range s.ppu.lineCount).findSome? (s.spriteAt x y)).getD .transparent := by
  have hnot := mt (hidden_iff s.ppu.showSpr s.ppu.showSprLeft x).mp (not_not.mpr h)
  rw [not_or] at hnot
  exact if_pos ⟨h.1, hnot.2⟩

/-- No latched sprite shows at a column where each has pixel 0. -/
theorem State.spritePixel_of_all_zero {s : State} {x y : Nat} (h : ∀ i < s.ppu.lineCount, s.spriteNumber x y i = 0) :
    s.spritePixel x y = .transparent := by
  by_cases hshown : s.ppu.mask.getLsbD 4 = true ∧ (8 ≤ x ∨ s.ppu.mask.getLsbD 2 = true)
  · have hnone : (List.range s.ppu.lineCount).findSome? (s.spriteAt x y) = none :=
      List.findSome?_eq_none_iff.mpr fun i hi => by rw [State.spriteAt_eq, if_pos (h i (List.mem_range.mp hi))]
    rw [State.spritePixel_shown hshown, hnone, Option.getD_none]
  · exact State.spritePixel_hidden hshown y

theorem findSome?_range_eq {α : Type} {f : Nat → Option α} {n i : Nat} {a : α} (hi : i < n) (ha : f i = some a)
    (hbefore : ∀ j < i, f j = none) : (List.range n).findSome? f = some a := by
  obtain ⟨k, rfl⟩ : ∃ k, n = i + 1 + k := ⟨n - (i + 1), by omega⟩
  have hnone : (List.range i).findSome? f = none :=
    List.findSome?_eq_none_iff.mpr fun j hj => hbefore j (List.mem_range.mp hj)
  rw [List.range_add, List.range_succ, List.append_assoc, List.findSome?_append, hnone]
  simp [ha]

/-! The sprite-0 hit (R378). -/

theorem zeroHit_eq_decide (bg : BgPixel) (sp : SpritePixel) (x : Nat) :
    zeroHit bg sp x = decide (sp.isZero = true ∧ bg.px ≠ 0 ∧ sp.px ≠ 0 ∧ x ≠ 255) := by
  rw [Bool.eq_iff_iff, decide_eq_true_iff]
  simp [zeroHit, and_assoc]

/-- Off the visible dots the sprite-0 flag falls at dot 1 of the pre-render line and stays otherwise. -/
theorem flagStep_spr0Hit (tv : TvSystem) (s : State) :
    (s.flagStep tv).ppu.spr0Hit = if s.ppu.scanline = preRender tv ∧ s.ppu.dot = 1 then false else s.ppu.spr0Hit := by
  have hpre := vblankLine_lt_preRender tv
  by_cases hvbl : s.ppu.scanline = 241 ∧ s.ppu.dot = 1
  · rw [State.flagStep_vblankDot hvbl.1 hvbl.2, State.startVblank_eq, if_neg (by omega)]
  · rw [State.flagStep_of_not_vblankDot hvbl]
    split <;> rfl

theorem ppuTick_spr0Hit_eq (s : State) :
    s.ppuTick.ppu.spr0Hit =
      if s.ppu.scanline < 240 ∧ 1 ≤ s.ppu.dot ∧ s.ppu.dot ≤ 256 then
        s.ppu.spr0Hit || zeroHit (s.bgPixel (s.ppu.dot - 1)) (s.spritePixel (s.ppu.dot - 1) s.ppu.scanline) (s.ppu.dot - 1)
      else if s.ppu.scanline = preRender s.cfg.header.tv ∧ s.ppu.dot = 1 then false else s.ppu.spr0Hit := by
  rw [State.ppuTick_spr0Hit]
  split
  · next h => rw [State.drawn_pixel h]; rfl
  · next h => rw [State.drawn_blank h, flagStep_spr0Hit]

/-- Settles O51: compositing, the pattern address and the colour index by their equations in whole numbers; the hit by the flag's
equation; the sprite pixel by the number of each latched sprite at the column. -/
theorem compositing : Obligations.Compositing := by
  refine ⟨fun p bg sp => ?_, fun p tile row => ⟨fun h => toNat_spritePatternAddr_8 h tile row, fun h =>
    toNat_spritePatternAddr_16 h tile row⟩, toNat_colourIndex, fun s => ?_, fun s x y => ?_⟩
  · rw [toNat_composite, toNat_backdropIndex]
  · intro p x last
    rw [ppuTick_spr0Hit_eq, zeroHit_eq_decide, preRender_eq]
  · intro p byte height pixel shown
    have hpixel : pixel = s.spriteNumber x y := rfl
    rw [hpixel]
    refine ⟨fun h => ?_, fun hshown i hi hne hbefore => ?_⟩
    · exact h.elim (fun hhidden => State.spritePixel_hidden hhidden y) State.spritePixel_of_all_zero
    · have hnone (j : Nat) (hj : j < i) : s.spriteAt x y j = none := by rw [State.spriteAt_eq, if_pos (hbefore j hj)]
      rw [State.spritePixel_shown hshown, findSome?_range_eq hi ((State.spriteAt_eq s x y i).trans (if_neg hne)) hnone]
      rfl

end Sys2Proof.Machine
end

section
/-! SUPPORT. The proof of the statement about sprite evaluation (50_ppu.md R363, R366 to R370): one dot of it by its cases, and the copy of
a sprite in eight dots with the bytes copied so far as the invariant. -/

namespace Sys2Proof.Machine

/-! What a tick does to the part of the PPU that sprite evaluation reads and writes is the sprite step alone. -/

/-- Two PPUs agree on what sprite evaluation reads and writes, but for the position and the overflow flag. -/
structure Ppu.SameSprites (q r : Ppu) : Prop where
  ctrl : q.ctrl = r.ctrl
  mask : q.mask = r.mask
  oam : q.oam = r.oam
  secOam : q.secOam = r.secOam
  evN : q.evN = r.evN
  evM : q.evM = r.evM
  evFound : q.evFound = r.evFound
  evPhase : q.evPhase = r.evPhase
  evLatch : q.evLatch = r.evLatch
  evSpr0 : q.evSpr0 = r.evSpr0
  lineSpr : q.lineSpr = r.lineSpr
  lineCount : q.lineCount = r.lineCount
  lineSpr0 : q.lineSpr0 = r.lineSpr0

theorem Ppu.SameSprites.trans {p q r : Ppu} (h : p.SameSprites q) (h' : q.SameSprites r) : p.SameSprites r :=
  ⟨h.ctrl.trans h'.ctrl, h.mask.trans h'.mask, h.oam.trans h'.oam, h.secOam.trans h'.secOam, h.evN.trans h'.evN,
    h.evM.trans h'.evM, h.evFound.trans h'.evFound, h.evPhase.trans h'.evPhase, h.evLatch.trans h'.evLatch,
    h.evSpr0.trans h'.evSpr0, h.lineSpr.trans h'.lineSpr, h.lineCount.trans h'.lineCount, h.lineSpr0.trans h'.lineSpr0⟩

/-- The flag step and the pixel step have no part in the sprite step. -/
theorem State.drawn_spriteStep (s : State) :
    (s.drawn.ppu.spriteStep s.cfg.header.tv).SameSprites (s.ppu.spriteStep s.cfg.header.tv) := by
  by_cases h : s.ppu.scanline < 240
  · have hdrawn : s.drawn.ppu = s.ppu.withPixel s.pixelStep.ppu.spr0Hit s.pixelStep.ppu.fb := by
      rw [State.drawn_visible h, State.pixelStep_frame]
      rfl
    have hvisible : (s.ppu.withPixel s.pixelStep.ppu.spr0Hit s.pixelStep.ppu.fb).scanline < 240 := h
    rw [hdrawn, Ppu.spriteStep_visible h, Ppu.spriteStep_visible hvisible, Ppu.evaluate_withPixel]
    constructor <;> rfl
  · have hdrawn : ¬ s.drawn.ppu.scanline < 240 := by
      rw [State.drawn_frame]
      exact h
    rw [Ppu.spriteStep_below h, Ppu.spriteStep_below hdrawn, State.drawn_frame]
    dsimp only
    split <;> constructor <;> rfl

theorem State.ppuTick_sameSprites (s : State) : s.ppuTick.ppu.SameSprites (s.ppu.spriteStep s.cfg.header.tv) := by
  have h := s.drawn_spriteStep
  have hctrl : (s.ppu.spriteStep s.cfg.header.tv).ctrl = s.ppu.ctrl := by rw [Ppu.spriteStep_frame]
  have hmask : (s.ppu.spriteStep s.cfg.header.tv).mask = s.ppu.mask := by rw [Ppu.spriteStep_frame]
  have hoam : (s.ppu.spriteStep s.cfg.header.tv).oam = s.ppu.oam := by rw [Ppu.spriteStep_frame]
  rw [State.ppuTick_frame, State.scrolled_frame]
  exact ⟨hctrl.symm, hmask.symm, hoam.symm, h.secOam, h.evN, h.evM, h.evFound, h.evPhase, h.evLatch, h.evSpr0, h.lineSpr,
    h.lineCount, h.lineSpr0⟩

/-! What each phase does with the latched byte (R370). -/

theorem Ppu.inRange_iff (p : Ppu) (y : Byte) :
    p.inRange y = true ↔ y.toNat ≤ p.scanline ∧ p.scanline - y.toNat < if p.ctrl.getLsbD 5 then 16 else 8 := by
  rw [Ppu.inRange, Bool.and_eq_true, decide_eq_true_iff, decide_eq_true_iff, Ppu.spriteHeight, Ppu.spr16]

theorem Ppu.nextSprite_eq (p : Ppu) :
    p.nextSprite = { p with
      evN := if p.evN = 63 then 63 else p.evN + 1, evPhase := if p.evN = 63 then .done else p.evPhase } := by
  unfold Ppu.nextSprite
  by_cases h : p.evN = 63
  · simp only [h, if_true]
  · simp only [h, if_false]

theorem Ppu.evAct_of_scan {p : Ppu} (h : p.evPhase = .scan) : p.evAct = p.evScan := by simp only [Ppu.evAct, h]
theorem Ppu.evAct_of_copy {p : Ppu} (h : p.evPhase = .copy) : p.evAct = p.evCopy := by simp only [Ppu.evAct, h]
theorem Ppu.evAct_of_done {p : Ppu} (h : p.evPhase = .done) : p.evAct = p := by simp only [Ppu.evAct, h]

theorem Ppu.evAct_scan_inRange {p : Ppu} (hphase : p.evPhase = .scan) (h : p.inRange p.evLatch = true) :
    p.evAct = { p with
      secOam := p.secOam.write (4 * p.evFound) p.evLatch, evSpr0 := p.evSpr0 || decide (p.evN = 0), evM := 1,
      evPhase := .copy } := by
  have hzero : (if p.evN = 0 then true else p.evSpr0) = (p.evSpr0 || decide (p.evN = 0)) := by
    by_cases h0 : p.evN = 0 <;> simp [h0]
  simp only [Ppu.evAct_of_scan hphase, Ppu.evScan, if_pos h, hzero]

theorem Ppu.evAct_scan_outOfRange {p : Ppu} (hphase : p.evPhase = .scan) (h : ¬ p.inRange p.evLatch = true) :
    p.evAct = { p with secOam := p.secOam.write (4 * p.evFound) p.evLatch }.nextSprite :=
  (Ppu.evAct_of_scan hphase).trans (if_neg h)

theorem Ppu.evAct_copy {p : Ppu} (hphase : p.evPhase = .copy) (h : p.evM.toNat < 3) :
    p.evAct = { p with
      secOam := p.secOam.write (4 * p.evFound + p.evM.toNat) p.evLatch, evM := p.evM + 1 } :=
  (Ppu.evAct_of_copy hphase).trans (if_pos h)

theorem Ppu.evAct_copy_last {p : Ppu} (hphase : p.evPhase = .copy) (h : p.evM = 3) :
    p.evAct = { p with
      secOam := p.secOam.write (4 * p.evFound + 3) p.evLatch, evM := 0, evFound := p.evFound + 1,
      evPhase := if p.evFound + 1 = 8 then .ovfScan else .scan }.nextSprite := by
  rw [Ppu.evAct_of_copy hphase, Ppu.evCopy, h]
  rfl

/-- `p` with a byte in the evaluation's latch. -/
def Ppu.latched (p : Ppu) (v : Byte) : Ppu := { p with evLatch := v }

theorem Ppu.evRead_eq (p : Ppu) :
    p.evRead = p.latched (if p.evPhase = .done then p.evLatch else p.oam.read ((4 * p.evN + p.evM.toNat) % 256)) := by
  unfold Ppu.evRead
  split <;> rfl

/-- An even dot of the evaluation goes by the line and by what sprite evaluation reads alone. -/
theorem Ppu.evAct_congr {q r : Ppu} (h : q.SameSprites r) (hline : q.scanline = r.scanline) :
    q.evAct.SameSprites r.evAct := by
  cases q
  cases r
  obtain ⟨rfl, rfl, rfl, rfl, rfl, rfl, rfl, rfl, rfl, rfl, rfl, rfl, rfl⟩ := h
  obtain rfl := hline
  unfold Ppu.evAct Ppu.evScan Ppu.evCopy Ppu.evOverflow Ppu.nextSprite Ppu.inRange Ppu.spriteHeight Ppu.spr16
  dsimp only
  split
  case h_4 => constructor <;> rfl
  all_goals split_ifs <;> constructor <;> rfl

/-! A sprite copied in eight dots. -/

theorem ppuTick_position_visible {s : State} (hline : s.ppu.scanline < 240) (hdot : s.ppu.dot < 340) :
    s.ppuTick.ppu.dot = s.ppu.dot + 1 ∧ s.ppuTick.ppu.scanline = s.ppu.scanline := by
  have hskip : ¬ s.ppu.skipsDot s.cfg.header.tv = true := by
    rw [Ppu.skipsDot_iff]
    omega
  rw [State.ppuTick_dot hskip (by omega)]
  exact ⟨rfl, s.scrolled_scanline⟩

/-- An odd dot of the evaluation latches the next OAM byte. -/
theorem ppuTick_read {s : State} (hline : s.ppu.scanline < 240) (hr : s.ppu.rendering = true) (h67 : 67 ≤ s.ppu.dot)
    (h255 : s.ppu.dot ≤ 255) (hodd : s.ppu.dot % 2 = 1) : s.ppuTick.ppu.SameSprites s.ppu.evRead := by
  rw [← Ppu.evaluate_read hr h67 h255 hodd, ← Ppu.spriteStep_visible hline s.cfg.header.tv]
  exact s.ppuTick_sameSprites

/-- An even dot of the evaluation acts on the latched byte. -/
theorem ppuTick_act {s : State} (hline : s.ppu.scanline < 240) (hr : s.ppu.rendering = true) (h66 : 66 ≤ s.ppu.dot)
    (h256 : s.ppu.dot ≤ 256) (heven : s.ppu.dot % 2 = 0) : s.ppuTick.ppu.SameSprites s.ppu.evAct := by
  rw [← Ppu.evaluate_act hr h66 h256 heven, ← Ppu.spriteStep_visible hline s.cfg.header.tv]
  exact s.ppuTick_sameSprites

theorem Ppu.SameSprites.rendering {q r : Ppu} (h : q.SameSprites r) : q.rendering = r.rendering := by
  rw [Ppu.rendering, Ppu.rendering, Ppu.showBg, Ppu.showBg, Ppu.showSpr, Ppu.showSpr, h.mask]

/-- Two dots of the evaluation, an odd one and an even one: the next OAM byte is latched and acted on. -/
theorem ppuTick_pair {s : State} (hline : s.ppu.scanline < 240) (hr : s.ppu.rendering = true) (h67 : 67 ≤ s.ppu.dot)
    (h255 : s.ppu.dot ≤ 255) (hodd : s.ppu.dot % 2 = 1) (hphase : s.ppu.evPhase ≠ .done) :
    s.ppuTick.ppuTick.ppu.SameSprites
      (s.ppu.latched (s.ppu.oam.read ((4 * s.ppu.evN + s.ppu.evM.toNat) % 256))).evAct ∧
    s.ppuTick.ppuTick.ppu.dot = s.ppu.dot + 2 ∧ s.ppuTick.ppuTick.ppu.scanline = s.ppu.scanline := by
  obtain ⟨hdot1, hline1⟩ := ppuTick_position_visible hline (by omega)
  obtain ⟨hdot2, hline2⟩ := ppuTick_position_visible (s := s.ppuTick) (by omega) (by omega)
  have hread := ppuTick_read hline hr h67 h255 hodd
  rw [Ppu.evRead_eq, if_neg hphase] at hread
  have hact := ppuTick_act (s := s.ppuTick) (by omega) (hread.rendering.trans hr) (by omega) (by omega) (by omega)
  exact ⟨hact.trans (Ppu.evAct_congr hread hline1), by omega, by omega⟩

/-- The PPU `p` may start to copy a sprite at its dot: eight dots of the evaluation are left on its visible line. -/
structure Ppu.CopyStart (p : Ppu) : Prop where
  visible : p.scanline < 240
  rendering : p.rendering = true
  first : 67 ≤ p.dot
  last : p.dot ≤ 249
  odd : p.dot % 2 = 1
  sprite : p.evN ≤ 63

/-- Secondary OAM `sec` holds the first `m` bytes of the sprite `p` is about to copy in `p`'s next slot, and `p`'s earlier slots. -/
def Ppu.CopiedBytes (p : Ppu) (m : Nat) (sec : Memory) : Prop :=
  (∀ k < m, sec.read (4 * p.evFound + k) = p.oam.read (4 * p.evN + k)) ∧
  (∀ k < 4 * p.evFound, sec.read k = p.secOam.read k)

theorem Ppu.copiedBytes_zero (p : Ppu) : p.CopiedBytes 0 p.secOam := ⟨fun _ hk => absurd hk (Nat.not_lt_zero _), fun _ _ => rfl⟩

theorem Ppu.CopiedBytes.write {p : Ppu} {m : Nat} {sec : Memory} (h : p.CopiedBytes m sec) :
    p.CopiedBytes (m + 1) (sec.write (4 * p.evFound + m) (p.oam.read (4 * p.evN + m))) := by
  obtain ⟨hbytes, hslots⟩ := h
  refine ⟨fun k hk => ?_, fun k hk => ?_⟩
  · rw [Memory.read_write]
    by_cases hkm : k = m
    · rw [if_pos (by rw [hkm]), hkm]
    · rw [if_neg (by omega), hbytes k (by omega)]
  · rw [Memory.read_write, if_neg (by omega), hslots k hk]

/-- From the start `p`, the PPU `q` has copied the first `m` bytes of the sprite, in two dots each. -/
structure Ppu.Copied (p : Ppu) (m : Nat) (q : Ppu) : Prop where
  dot : q.dot = p.dot + 2 * m
  scanline : q.scanline = p.scanline
  mask : q.mask = p.mask
  oam : q.oam = p.oam
  evN : q.evN = p.evN
  evFound : q.evFound = p.evFound
  evSpr0 : p.evN = 0 → q.evSpr0 = true
  evPhase : q.evPhase = .copy
  evM : q.evM.toNat = m
  bytes : p.CopiedBytes m q.secOam

/-- The Y byte of a sprite in range is the first byte copied. -/
theorem Ppu.CopyStart.copied_one {s : State} (hp : s.ppu.CopyStart) (hphase : s.ppu.evPhase = .scan) (hm : s.ppu.evM = 0)
    (hrange : s.ppu.inRange (s.ppu.oam.read (4 * s.ppu.evN)) = true) : s.ppu.Copied 1 s.ppuTick.ppuTick.ppu := by
  obtain ⟨hline, hr, hfirst, hlast, hodd, hsprite⟩ := hp
  obtain ⟨h, hdot, hscan⟩ := ppuTick_pair hline hr hfirst (by omega) hodd (by rw [hphase]; decide)
  have haddr : (4 * s.ppu.evN + s.ppu.evM.toNat) % 256 = 4 * s.ppu.evN := by
    rw [hm, show (0 : BitVec 2).toNat = 0 from rfl]
    omega
  rw [haddr, Ppu.evAct_scan_inRange (p := s.ppu.latched (s.ppu.oam.read (4 * s.ppu.evN))) hphase hrange] at h
  refine ⟨hdot, hscan, h.mask, h.oam, h.evN, h.evFound, fun h0 => ?_, h.evPhase, by rw [h.evM]; rfl, ?_⟩
  · have hspr0 : s.ppuTick.ppuTick.ppu.evSpr0 = (s.ppu.evSpr0 || decide (s.ppu.evN = 0)) := h.evSpr0
    rw [hspr0, h0]
    exact Bool.or_true _
  · rw [h.secOam]
    exact s.ppu.copiedBytes_zero.write

/-- After `m` bytes the next two dots latch byte `m` of the sprite and act on it. -/
theorem Ppu.CopyStart.next_pair {p : Ppu} (hp : p.CopyStart) {m : Nat} (hm : m < 4) {t : State} (ht : p.Copied m t.ppu) :
    t.ppuTick.ppuTick.ppu.SameSprites (t.ppu.latched (p.oam.read (4 * p.evN + m))).evAct ∧
    t.ppuTick.ppuTick.ppu.dot = t.ppu.dot + 2 ∧ t.ppuTick.ppuTick.ppu.scanline = t.ppu.scanline := by
  obtain ⟨hline, hr, hfirst, hlast, hodd, hsprite⟩ := hp
  have hdot := ht.dot
  have hscan := ht.scanline
  have hrendering : t.ppu.rendering = true := by rw [Ppu.rendering_iff, ht.mask, ← Ppu.rendering_iff, hr]
  have haddr : (4 * t.ppu.evN + t.ppu.evM.toNat) % 256 = 4 * p.evN + m := by
    rw [ht.evN, ht.evM]
    omega
  rw [← haddr, ← ht.oam]
  exact ppuTick_pair (by omega) hrendering (by omega) (by omega) (by omega) (by rw [ht.evPhase]; decide)

theorem Ppu.CopyStart.copied_succ {p : Ppu} (hp : p.CopyStart) {m : Nat} (hm : m < 3) {t : State} (ht : p.Copied m t.ppu) :
    p.Copied (m + 1) t.ppuTick.ppuTick.ppu := by
  obtain ⟨h, hdot, hscan⟩ := hp.next_pair (by omega) ht
  have hevM := ht.evM
  rw [Ppu.evAct_copy (p := t.ppu.latched (p.oam.read (4 * p.evN + m))) ht.evPhase (hevM.trans_lt hm)] at h
  refine ⟨by rw [hdot, ht.dot]; ring, hscan.trans ht.scanline, h.mask.trans ht.mask, h.oam.trans ht.oam, h.evN.trans ht.evN,
    h.evFound.trans ht.evFound, fun h0 => h.evSpr0.trans (ht.evSpr0 h0), h.evPhase.trans ht.evPhase, ?_, ?_⟩
  · have hsucc : t.ppuTick.ppuTick.ppu.evM = t.ppu.evM + 1 := h.evM
    rw [hsucc]
    bv_omega
  · have hsec : t.ppuTick.ppuTick.ppu.secOam =
        t.ppu.secOam.write (4 * t.ppu.evFound + t.ppu.evM.toNat) (p.oam.read (4 * p.evN + m)) := h.secOam
    rw [hsec, ht.evFound, hevM]
    exact ht.bytes.write

/-- The last byte counts the sprite and goes to the next one. -/
theorem Ppu.CopyStart.copied_last {p : Ppu} (hp : p.CopyStart) {t : State} (ht : p.Copied 3 t.ppu) :
    p.CopiedBytes 4 t.ppuTick.ppuTick.ppu.secOam ∧ t.ppuTick.ppuTick.ppu.evFound = p.evFound + 1 ∧
    t.ppuTick.ppuTick.ppu.oam = p.oam ∧ t.ppuTick.ppuTick.ppu.evN = (if p.evN = 63 then 63 else p.evN + 1) ∧
    t.ppuTick.ppuTick.ppu.evPhase =
      (if p.evN = 63 then .done else if p.evFound + 1 = 8 then .ovfScan else .scan) ∧
    (p.evN = 0 → t.ppuTick.ppuTick.ppu.evSpr0 = true) := by
  obtain ⟨h, -, -⟩ := hp.next_pair (by omega) ht
  have hevM : t.ppu.evM = 3 := BitVec.eq_of_toNat_eq ht.evM
  rw [Ppu.evAct_copy_last (p := t.ppu.latched (p.oam.read (4 * p.evN + 3))) ht.evPhase hevM, Ppu.nextSprite_eq] at h
  refine ⟨?_, h.evFound.trans (congrArg (· + 1) ht.evFound), h.oam.trans ht.oam, ?_, ?_,
    fun h0 => h.evSpr0.trans (ht.evSpr0 h0)⟩
  · have hsec : t.ppuTick.ppuTick.ppu.secOam = t.ppu.secOam.write (4 * t.ppu.evFound + 3) (p.oam.read (4 * p.evN + 3)) :=
      h.secOam
    rw [hsec, ht.evFound]
    exact ht.bytes.write
  · rw [← ht.evN]
    exact h.evN
  · rw [← ht.evN, ← ht.evFound]
    exact h.evPhase

/-! One dot that leaves the evaluation or the latched sprites alone (R363, R367). -/

/-- Where nothing is evaluated the sprite step changes the latched sprites, at most. -/
theorem Ppu.spriteStep_idle (p : Ppu) (tv : TvSystem)
    (h : ¬ (p.scanline < 240 ∧ p.rendering = true) ∨ p.dot = 0 ∨ 257 ≤ p.dot) :
    p.spriteStep tv = { p with
      lineSpr := (p.spriteStep tv).lineSpr, lineCount := (p.spriteStep tv).lineCount,
      lineSpr0 := (p.spriteStep tv).lineSpr0 } := by
  by_cases hline : p.scanline < 240
  · rw [Ppu.spriteStep_visible hline]
    by_cases hdot : p.dot = 257
    · rw [Ppu.evaluate_latch hdot]
      exact p.latchSprites_frame
    · have hrest : p.rendering = false ∨ p.dot = 0 ∨ 257 ≤ p.dot :=
        h.imp_left fun hidle => Bool.eq_false_iff.mpr fun hr => hidle ⟨hline, hr⟩
      rw [Ppu.evaluate_rest hdot hrest]
  · rw [Ppu.spriteStep_below hline]
    split <;> rfl

/-- Only dot 257 latches sprites, on a visible line or the pre-render line. -/
theorem Ppu.spriteStep_keepsLatched (p : Ppu) (tv : TvSystem)
    (h : ¬ ((p.scanline < 240 ∨ p.scanline = preRender tv) ∧ p.dot = 257)) :
    (p.spriteStep tv).lineSpr = p.lineSpr ∧ (p.spriteStep tv).lineCount = p.lineCount ∧
    (p.spriteStep tv).lineSpr0 = p.lineSpr0 := by
  by_cases hline : p.scanline < 240
  · rw [Ppu.spriteStep_visible hline]
    rcases p.evaluate_cases with he | he | he | he | he | ⟨hdot, -⟩
    · rw [he]; exact ⟨rfl, rfl, rfl⟩
    · rw [he]; exact ⟨rfl, rfl, rfl⟩
    · rw [he, Ppu.evRead_eq]; exact ⟨rfl, rfl, rfl⟩
    · rw [he, Ppu.evRead_eq]; exact ⟨rfl, rfl, rfl⟩
    · rw [he, Ppu.evAct_frame]; exact ⟨rfl, rfl, rfl⟩
    · exact absurd ⟨Or.inl hline, hdot⟩ h
  · rw [Ppu.spriteStep_rest hline fun hpre => h ⟨Or.inr hpre.1, hpre.2⟩]
    exact ⟨rfl, rfl, rfl⟩

theorem Ppu.CopyStart.copied_three {s : State} (hp : s.ppu.CopyStart) (hphase : s.ppu.evPhase = .scan)
    (hm : s.ppu.evM = 0) (hrange : s.ppu.inRange (s.ppu.oam.read (4 * s.ppu.evN)) = true) :
    s.ppu.Copied 3 (State.ppuTick^[6] s).ppu :=
  hp.copied_succ (by decide) (hp.copied_succ (by decide) (hp.copied_one hphase hm hrange))

/-- The number and the phase `NextSprite` leaves, as a pair (R370). -/
theorem nextSprite_pair {q : Ppu} {n : Nat} {phase : EvPhase} (hn : q.evN = if n = 63 then 63 else n + 1)
    (hphase : q.evPhase = if n = 63 then .done else phase) :
    (q.evN, q.evPhase) = if n = 63 then (63, .done) else (n + 1, phase) := by
  rw [hn, hphase]
  split <;> rfl

/-- Settles O54: one tick by the cases of the sprite step; eight ticks as four pairs, each of which copies one byte. -/
theorem spriteCopy : Obligations.SpriteCopy := by
  refine ⟨fun s => ?_, fun s => ?_⟩
  · intro p q last height rendering active acts inRange next stored
    have hlast : last = preRender s.cfg.header.tv := (preRender_eq _).symm
    have hbelow := vblankLine_lt_preRender s.cfg.header.tv
    have hstep : q.SameSprites (p.spriteStep s.cfg.header.tv) := s.ppuTick_sameSprites
    have hrendering (h : rendering) : p.rendering = true := p.rendering_iff.mpr h
    have hvisible (h : p.scanline < 240) : q.SameSprites p.evaluate := Ppu.spriteStep_visible h s.cfg.header.tv ▸ hstep
    have hact (h : acts) : q.SameSprites p.evAct := by
      obtain ⟨⟨hline, hr⟩, h66, h256, heven⟩ := h
      exact ppuTick_act hline (hrendering hr) h66 h256 heven
    have hstored {a : Nat} {v : Byte} (h : q.secOam = p.secOam.write a v) : stored a v := fun k => by
      rw [h, Memory.read_write]
    have hinRange : inRange ↔ p.inRange p.evLatch = true := (p.inRange_iff p.evLatch).symm
    refine ⟨?clear, ?start, ?read, ?latch, ?found, ?missed, ?copy, ?rest, ?latched, ?none, ?other⟩
    case clear =>
      intro ha h1 h64
      have h := hvisible ha.1
      rw [Ppu.evaluate_clear (hrendering ha.2) h1 h64] at h
      by_cases heven : p.dot % 2 = 0
      · rw [if_pos heven] at h ⊢
        exact ⟨hstored h.secOam, h.evN, h.evM, h.evFound, h.evPhase, h.evLatch, h.evSpr0⟩
      · rw [if_neg heven] at h ⊢
        exact ⟨h.secOam, h.evN, h.evM, h.evFound, h.evPhase, h.evLatch, h.evSpr0⟩
    case start =>
      intro ha hdot
      have h := hvisible ha.1
      rw [Ppu.evaluate_start (hrendering ha.2) hdot] at h
      exact ⟨h.evN, h.evM, h.evFound, h.evSpr0, h.evPhase, h.evLatch, h.secOam⟩
    case read =>
      intro ha h67 h255 hodd
      have h : q.SameSprites p.evRead := ppuTick_read ha.1 (hrendering ha.2) h67 h255 hodd
      rw [Ppu.evRead_eq] at h
      exact ⟨h.evLatch, h.evN, h.evM, h.evFound, h.evPhase, h.evSpr0, h.secOam⟩
    case latch =>
      intro ha
      have h := hact ha
      rw [Ppu.evAct_frame] at h
      exact h.evLatch
    case found =>
      intro ha hphase hr
      have h := hact ha
      rw [Ppu.evAct_scan_inRange hphase (hinRange.mp hr)] at h
      exact ⟨hstored h.secOam, h.evSpr0, h.evM, h.evPhase, h.evN, h.evFound⟩
    case missed =>
      intro ha hphase hr
      have h := hact ha
      rw [Ppu.evAct_scan_outOfRange hphase (mt hinRange.mpr hr), Ppu.nextSprite_eq] at h
      exact ⟨hstored h.secOam, h.evSpr0, h.evM, nextSprite_pair h.evN (hphase ▸ h.evPhase), h.evFound⟩
    case copy =>
      intro ha hphase
      have h := hact ha
      by_cases hm : p.evM = 3
      · have hlast3 : p.evM.toNat = 3 := congrArg BitVec.toNat hm
        rw [Ppu.evAct_copy_last hphase hm, Ppu.nextSprite_eq] at h
        exact ⟨hlast3 ▸ hstored h.secOam, h.evSpr0, by rw [h.evM, hlast3]; rfl, fun hlt => absurd hlt (by omega),
          fun _ => ⟨nextSprite_pair h.evN h.evPhase, h.evFound⟩⟩
      · have hlt : p.evM.toNat < 3 := by bv_omega
        rw [Ppu.evAct_copy hphase hlt] at h
        exact ⟨hstored h.secOam, h.evSpr0, by rw [h.evM]; exact BitVec.toNat_add _ _,
          fun _ => ⟨h.evN, h.evPhase.trans hphase, h.evFound⟩, fun h3 => absurd h3 hm⟩
    case rest =>
      rintro (⟨ha, hdone⟩ | hidle)
      · have h := hact ha
        rw [Ppu.evAct_of_done hdone] at h
        exact ⟨h.secOam, h.evN, h.evM, h.evFound, h.evPhase, h.evLatch, h.evSpr0⟩
      · have hnot : ¬ (p.scanline < 240 ∧ p.rendering = true) ∨ p.dot = 0 ∨ 257 ≤ p.dot :=
          hidle.imp_left fun hna hr => hna ⟨hr.1, p.rendering_iff.mp hr.2⟩
        rw [Ppu.spriteStep_idle p _ hnot] at hstep
        exact ⟨hstep.secOam, hstep.evN, hstep.evM, hstep.evFound, hstep.evPhase, hstep.evLatch, hstep.evSpr0⟩
    case latched =>
      intro hline hdot hr
      have h := hvisible hline
      rw [Ppu.evaluate_latch hdot, Ppu.latchSprites, if_pos (hrendering hr)] at h
      exact ⟨h.lineSpr, h.lineCount, h.lineSpr0⟩
    case none =>
      rintro (⟨hline, hr⟩ | hline) hdot
      · have h := hvisible hline
        rw [Ppu.evaluate_latch hdot, Ppu.latchSprites, if_neg (mt p.rendering_iff.mp hr)] at h
        exact ⟨h.lineSpr, h.lineCount, h.lineSpr0⟩
      · rw [hlast] at hline
        rw [Ppu.spriteStep_below (by omega), if_pos ⟨hline, hdot⟩] at hstep
        exact ⟨hstep.lineSpr, hstep.lineCount, hstep.lineSpr0⟩
    case other =>
      intro hother
      rw [hlast] at hother
      obtain ⟨hspr, hcount, hzero⟩ := p.spriteStep_keepsLatched s.cfg.header.tv hother
      exact ⟨hstep.lineSpr.trans hspr, hstep.lineCount.trans hcount, hstep.lineSpr0.trans hzero⟩
  · intro p y q hphase hm hfound hsprite hline h67 h249 hodd hr hy hheight
    have hp : p.CopyStart := ⟨hline, p.rendering_iff.mpr hr, h67, h249, hodd, hsprite⟩
    have hthree := hp.copied_three hphase hm ((p.inRange_iff y).mpr ⟨hy, hheight⟩)
    have hq : q = (State.ppuTick^[6] s).ppuTick.ppuTick.ppu :=
      congrArg State.ppu ((Function.iterate_succ_apply' _ 7 s).trans (congrArg _ (Function.iterate_succ_apply' _ 6 s)))
    rw [hq]
    obtain ⟨⟨hbytes, hslots⟩, hcount, hoam, hn, hnext, hzero⟩ := hp.copied_last hthree
    refine ⟨hcount, hbytes, hslots, hoam, fun hlt => ⟨hn.trans (if_neg (by omega)), hnext.trans ?_⟩,
      fun h63 => hnext.trans (if_pos h63), hzero⟩
    rw [if_neg (by omega)]
    simp only [Nat.reduceEqDiff]

end Sys2Proof.Machine
end

section
/-! SUPPORT. The proofs of the statements about the units of a pulse channel, its output and the mixed sample (51_apu.md R412 to
R416, R420, R421): each unit as one update of the channel, in whole numbers. -/

namespace Sys2Proof.Machine

/-! Bits in whole numbers. -/

theorem sub_one_eq_ofNat {w : Nat} {x : BitVec w} (hx : x ≠ 0) : x - 1 = BitVec.ofNat w (x.toNat - 1) := by
  obtain ⟨n, hn⟩ := Nat.exists_eq_add_one_of_ne_zero (mt (bitVec_eq_zero_iff x).mpr hx)
  have hpred : x = BitVec.ofNat w n + 1 := by
    have hsum : x = BitVec.ofNat w (n + 1) := eq_ofNat_of_toNat_mod (by rw [← hn, Nat.mod_eq_of_lt x.isLt])
    rw [hsum, BitVec.ofNat_add]
    rfl
  rw [hn, Nat.add_sub_cancel, hpred, add_sub_cancel_right]

theorem bitSlice_eq_ofNat {w : Nat} (x : BitVec w) (start len : Nat) :
    x.extractLsb' start len = BitVec.ofNat len (x.toNat / 2 ^ start) :=
  eq_ofNat_of_toNat_mod (toNat_bitSlice x start len)

theorem rotateLeft_one_eq_ofNat (v : Byte) : v.rotateLeft 1 = BitVec.ofNat 8 (2 * v.toNat + v.toNat / 128) := by
  have hv : v.toNat < 256 := v.isLt
  apply eq_ofNat_of_toNat_mod
  rw [BitVec.toNat_rotateLeft, show 1 % 8 = 1 from rfl, Nat.shiftLeft_eq, Nat.shiftRight_eq_div_pow,
    or_eq_add_of_dvd 1 (by omega) (by omega)]
  omega

/-! The units (R412 to R416). -/

theorem Pulse.timerClock_eq (ch : Pulse) :
    ch.timerClock = if ch.timer = 0
      then { ch with timer := ch.timerPeriod, seq := BitVec.ofNat 8 (2 * ch.seq.toNat + ch.seq.toNat / 128) }
      else { ch with timer := BitVec.ofNat 11 (ch.timer.toNat - 1) } := by
  unfold Pulse.timerClock
  by_cases h : ch.timer = 0
  · rw [if_pos h, if_pos h, rotateLeft_one_eq_ofNat]
  · rw [if_neg h, if_neg h, sub_one_eq_ofNat h]

theorem Pulse.envelopeStep_eq (ch : Pulse) :
    ch.envelopeStep = if ch.envStart = true then { ch with envStart := false, envDecay := 15, envDiv := ch.volume }
      else if ch.envDiv ≠ 0 then { ch with envDiv := BitVec.ofNat 4 (ch.envDiv.toNat - 1) }
      else { ch with
        envDiv := ch.volume,
        envDecay := if ch.envDecay ≠ 0 then BitVec.ofNat 4 (ch.envDecay.toNat - 1) else if ch.halt = true then 15 else 0 } := by
  unfold Pulse.envelopeStep
  by_cases hstart : ch.envStart = true
  · rw [if_pos hstart, if_pos hstart]
  rw [if_neg hstart, if_neg hstart]
  by_cases hdiv : ch.envDiv = 0
  · rw [if_pos hdiv, if_neg (not_not.mpr hdiv)]
    by_cases hdecay : ch.envDecay = 0
    · cases hhalt : ch.halt <;> simp [hdecay]
    · simp only [ne_eq, hdecay, not_false_eq_true, if_true, sub_one_eq_ofNat hdecay]
  · rw [if_neg hdiv, if_pos hdiv, sub_one_eq_ofNat hdiv]

theorem Pulse.lengthStep_eq (ch : Pulse) :
    ch.lengthStep = { ch with length := if ch.halt = true then ch.length else BitVec.ofNat 8 (ch.length.toNat - 1) } := by
  unfold Pulse.lengthStep
  by_cases h : ch.halt = false ∧ ch.length ≠ 0
  · rw [if_pos h, sub_one_eq_ofNat h.2, h.1, if_neg Bool.false_ne_true]
  · have hkeep : (if ch.halt = true then ch.length else BitVec.ofNat 8 (ch.length.toNat - 1)) = ch.length := by
      split
      · rfl
      · next hhalt =>
        have hzero : ch.length = 0 := not_not.mp fun hlen => h ⟨Bool.eq_false_iff.mpr hhalt, hlen⟩
        rw [hzero]
        rfl
    rw [if_neg h, hkeep]

theorem toNat_sweepTarget (w : Channel) (ch : Pulse) :
    (sweepTarget w ch).toNat =
      if ch.swNegate = false then ch.timerPeriod.toNat + ch.timerPeriod.toNat / 2 ^ ch.swShift.toNat
      else match w with
        | .p1 => ch.timerPeriod.toNat - ch.timerPeriod.toNat / 2 ^ ch.swShift.toNat - 1
        | .p2 => ch.timerPeriod.toNat - ch.timerPeriod.toNat / 2 ^ ch.swShift.toNat := by
  have hperiod : ch.timerPeriod.toNat < 2048 := ch.timerPeriod.isLt
  have hchange : ch.timerPeriod.toNat / 2 ^ ch.swShift.toNat ≤ ch.timerPeriod.toNat := Nat.div_le_self _ _
  simp only [sweepTarget, Nat.shiftRight_eq_div_pow]
  generalize ch.timerPeriod.toNat / 2 ^ ch.swShift.toNat = change at hchange ⊢
  cases ch.swNegate
  · exact (BitVec.toNat_ofNat _ _).trans (Nat.mod_eq_of_lt (by omega))
  · cases w <;> exact (BitVec.toNat_ofNat _ _).trans (Nat.mod_eq_of_lt (by omega))

theorem muted_eq_false_iff (w : Channel) (ch : Pulse) :
    muted w ch = false ↔ 8 ≤ ch.timerPeriod.toNat ∧ (sweepTarget w ch).toNat ≤ 0x7FF := by
  rw [muted, Bool.or_eq_false_iff, decide_eq_false_iff_not, decide_eq_false_iff_not, Nat.not_lt, Nat.not_lt]

theorem Pulse.sweepCommit_eq (w : Channel) (ch : Pulse) :
    ch.sweepCommit w = { ch with
      timerPeriod := if ch.swDiv = 0 ∧ ch.swEnabled = true ∧ ch.swShift ≠ 0 ∧ 8 ≤ ch.timerPeriod.toNat ∧
          (sweepTarget w ch).toNat ≤ 0x7FF
        then BitVec.ofNat 11 (sweepTarget w ch).toNat else ch.timerPeriod } := by
  simp only [Pulse.sweepCommit, muted_eq_false_iff, bitSlice_eq_ofNat, Nat.pow_zero, Nat.div_one]
  split <;> rfl

theorem Pulse.sweepDivide_eq (ch : Pulse) :
    ch.sweepDivide = { ch with
      swDiv := if ch.swDiv = 0 ∨ ch.swReload = true then ch.swPeriod else BitVec.ofNat 3 (ch.swDiv.toNat - 1),
      swReload := if ch.swDiv = 0 then false else if ch.swReload = true then false else ch.swReload } := by
  unfold Pulse.sweepDivide
  by_cases hdiv : ch.swDiv = 0
  · simp only [hdiv, true_or, if_true]
  · cases hreload : ch.swReload
    · simp only [hdiv, Bool.false_eq_true, or_self, if_false, sub_one_eq_ofNat hdiv]
    · simp only [hdiv, or_true, if_true, if_false]

/-- Settles O55: each unit as one update of the channel; the sweep step is the commit, which sets the period alone, and then the
divider, which leaves it. -/
theorem pulseUnits : Obligations.PulseUnits := by
  intro ch w period change target commits
  refine ⟨ch.timerClock_eq, ch.envelopeStep_eq, ch.lengthStep_eq, toNat_sweepTarget w ch, ?_, ?_⟩
  · rw [Pulse.sweepStep, Pulse.sweepDivide_eq, Pulse.sweepCommit_eq]
  · rw [Pulse.sweepStep, Pulse.sweepDivide_eq, Pulse.sweepCommit_eq]

/-! The output of a channel and the sample (R420, R421). -/

theorem toNat_div_128_eq_bitNat (v : Byte) : v.toNat / 128 = bitNat (v.getLsbD 7) := by
  have hv : v.toNat < 256 := v.isLt
  rw [getLsbD_seven_eq_decide]
  simp only [bitNat, decide_eq_true_eq]
  split <;> omega

theorem pulseOut_silent {w : Channel} {ch : Pulse}
    (h : ch.timerPeriod.toNat < 8 ∨ ch.length.toNat = 0 ∨ ch.enabled = false ∨ 0x7FF < (sweepTarget w ch).toNat) :
    pulseOut w ch = 0 := by
  rw [← bitVec_eq_zero_iff] at h
  exact if_pos h

theorem pulseOut_sounding {w : Channel} {ch : Pulse}
    (h : ¬ (ch.timerPeriod.toNat < 8 ∨ ch.length.toNat = 0 ∨ ch.enabled = false ∨ 0x7FF < (sweepTarget w ch).toNat)) :
    pulseOut w ch = ch.seq.toNat / 128 * (if ch.constVol = true then ch.volume.toNat else ch.envDecay.toNat) := by
  rw [← bitVec_eq_zero_iff] at h
  rw [pulseOut, if_neg h, toNat_div_128_eq_bitNat]
  cases ch.seq.getLsbD 7
  · exact (Nat.zero_mul _).symm
  · exact (Nat.one_mul _).symm

theorem pulseOut_le (w : Channel) (ch : Pulse) : pulseOut w ch ≤ 15 := by
  have hvolume : ch.volume.toNat < 16 := ch.volume.isLt
  have hdecay : ch.envDecay.toNat < 16 := ch.envDecay.isLt
  unfold pulseOut
  split_ifs <;> omega

theorem mixSample_le {n : Nat} (hn : n ≤ 30) : mixSample n ≤ 65 :=
  Nat.le_of_lt_succ (Nat.div_lt_of_lt_mul (by omega))

theorem mixSample_eq_floor {n : Nat} (hn : n ≠ 0) :
    (mixSample n : Int) = ⌊(255 : ℚ) * (95.88 / (8128 / (n : ℚ) + 100))⌋ := by
  have hformula : (255 : ℚ) * (95.88 / (8128 / (n : ℚ) + 100)) =
      ((255 * 9588 * n : Nat) : ℚ) / ((100 * (8128 + 100 * n) : Nat) : ℚ) := by
    have hq : (n : ℚ) ≠ 0 := Nat.cast_ne_zero.mpr hn
    push_cast
    field_simp
    norm_num
  rw [hformula, Rat.floor_natCast_div_natCast, mixSample, Int.natCast_ediv]

/-- Settles O56: the output by its two cases, and the sample of a sum of two outputs of at most 15 each. -/
theorem pulseOutputAndSample : Obligations.PulseOutputAndSample := by
  refine ⟨fun ch w => ⟨pulseOut_le w ch, pulseOut_silent, pulseOut_sounding⟩, fun a => ?_⟩
  have hn : pulseOut .p1 a.p1 + pulseOut .p2 a.p2 ≤ 30 := Nat.add_le_add (pulseOut_le .p1 a.p1) (pulseOut_le .p2 a.p2)
  refine ⟨hn, mixSample_le hn, fun hzero => ?_, mixSample_eq_floor⟩
  exact (congrArg mixSample hzero).trans (by decide)

end Sys2Proof.Machine
end

section
/-! SUPPORT. The proofs of the statements about the APU registers and the APU tick (51_apu.md R401 to R408, R410, R411, R423, R424):
the fields of each register in whole numbers, and what a frame event does to each channel. -/

namespace Sys2Proof.Machine

/-! The registers of a channel (R402 to R405, R410, R411). -/

theorem dutyPattern_eq (d : BitVec 2) : dutyPattern d = [0x40, 0x60, 0x78, 0x9F].getD d.toNat 0 := by
  revert d
  decide

theorem bitSlice_eq_ofNat_mod {w : Nat} (x : BitVec w) (start len : Nat) :
    x.extractLsb' start len = BitVec.ofNat len (x.toNat / 2 ^ start % 2 ^ len) :=
  eq_ofNat_of_toNat_mod (by rw [toNat_bitSlice, Nat.mod_mod])

theorem Pulse.writeDuty_eq (ch : Pulse) (v : Byte) :
    ch.writeDuty v = { ch with
      duty := BitVec.ofNat 2 (v.toNat / 64), halt := decide (v.toNat / 32 % 2 = 1), constVol := decide (v.toNat / 16 % 2 = 1),
      volume := BitVec.ofNat 4 (v.toNat % 16), seq := [0x40, 0x60, 0x78, 0x9F].getD (v.toNat / 64) 0 } := by
  have hv : v.toNat < 256 := v.isLt
  have hduty : v.toNat / 64 % 4 = v.toNat / 64 := by omega
  simp only [Pulse.writeDuty, dutyPattern_eq, bitSlice_eq_ofNat_mod, BitVec.toNat_ofNat, getLsbD_eq_decide, Nat.reducePow,
    Nat.div_one, hduty]

theorem Pulse.writeSweep_eq (ch : Pulse) (v : Byte) :
    ch.writeSweep v = { ch with
      swEnabled := decide (v.toNat / 128 = 1), swPeriod := BitVec.ofNat 3 (v.toNat / 16 % 8),
      swNegate := decide (v.toNat / 8 % 2 = 1), swShift := BitVec.ofNat 3 (v.toNat % 8), swReload := true } := by
  have hv : v.toNat < 256 := v.isLt
  have htop : v.toNat / 128 % 2 = v.toNat / 128 := by omega
  simp only [Pulse.writeSweep, bitSlice_eq_ofNat_mod, getLsbD_eq_decide, Nat.reducePow, Nat.div_one, htop]

theorem Pulse.writeTimerLow_eq (ch : Pulse) (v : Byte) :
    ch.writeTimerLow v = { ch with timerPeriod := BitVec.ofNat 11 (ch.timerPeriod.toNat / 256 * 256 + v.toNat) } := by
  have hperiod : ch.timerPeriod.extractLsb' 8 3 ++ v = BitVec.ofNat 11 (ch.timerPeriod.toNat / 256 * 256 + v.toNat) := by
    apply eq_ofNat_of_toNat_mod
    rw [toNat_append_eq_add, toNat_bitSlice]
    omega
  rw [Pulse.writeTimerLow, hperiod]

theorem lengthLoad_eq (v : Byte) : lengthLoad (v.extractLsb' 3 5) = lengthTable.getD (v.toNat / 8) 0 := by
  have hv : v.toNat < 256 := v.isLt
  have hindex : (v.extractLsb' 3 5).toNat = v.toNat / 8 := by
    rw [toNat_bitSlice]
    omega
  rw [lengthLoad, hindex]

theorem Pulse.writeTimerHigh_eq (ch : Pulse) (v : Byte) :
    ch.writeTimerHigh v = { ch with
      timerPeriod := BitVec.ofNat 11 (v.toNat % 8 * 256 + ch.timerPeriod.toNat % 256),
      length := if ch.enabled = true then lengthTable.getD (v.toNat / 8) 0 else ch.length,
      seq := [0x40, 0x60, 0x78, 0x9F].getD ch.duty.toNat 0, envStart := true } := by
  have hperiod : v.extractLsb' 0 3 ++ ch.timerPeriod.extractLsb' 0 8 =
      BitVec.ofNat 11 (v.toNat % 8 * 256 + ch.timerPeriod.toNat % 256) := by
    apply eq_ofNat_of_toNat_mod
    rw [toNat_append_eq_add, toNat_bitSlice, toNat_bitSlice]
    omega
  rw [Pulse.writeTimerHigh, hperiod, lengthLoad_eq, dutyPattern_eq]

/-! The status register (R406, R407). -/

theorem Apu.writeStatus_eq (a : Apu) (v : Byte) :
    a.writeStatus v = { a with
      p1 := { a.p1 with enabled := decide (v.toNat % 2 = 1), length := if v.toNat % 2 = 1 then a.p1.length else 0 },
      p2 := { a.p2 with enabled := decide (v.toNat / 2 % 2 = 1), length := if v.toNat / 2 % 2 = 1 then a.p2.length else 0 } } := by
  simp only [Apu.writeStatus, Pulse.setEnabled, getLsbD_eq_decide, decide_eq_true_eq, Nat.reducePow, Nat.div_one]

theorem bitNat_ne_zero {w : Nat} (x : BitVec w) : bitNat (x != 0) = if x.toNat = 0 then 0 else 1 := by
  by_cases h : x = 0
  · rw [if_pos ((bitVec_eq_zero_iff x).mp h), bne_eq_false_iff_eq.mpr h]
    rfl
  · rw [if_neg (mt (bitVec_eq_zero_iff x).mpr h), bne_iff_ne.mpr h]
    rfl

theorem Apu.toNat_readStatus (a : Apu) :
    a.readStatus.toNat = (if a.p1.length.toNat = 0 then 0 else 1) + (if a.p2.length.toNat = 0 then 0 else 2) := by
  simp only [Apu.readStatus, toNat_append_eq_add, toNat_ofBool_eq_bitNat, bitNat_ne_zero]
  split_ifs <;> rfl

/-! A frame event, channel by channel (R424). -/

/-- What a frame event does to a channel. -/
def Pulse.perform (w : Channel) (ch : Pulse) : FrameEvent → Pulse
  | .none => ch
  | .quarter => ch.envelopeStep
  | .quarterHalf => ch.envelopeStep.lengthStep.sweepStep w

theorem Apu.perform_eq (a : Apu) (e : FrameEvent) :
    a.perform e = { a with p1 := a.p1.perform .p1 e, p2 := a.p2.perform .p2 e } := by cases e <;> rfl

/-- A write of the frame counter runs both units at once in 5-step mode (R408). -/
theorem Apu.writeFrameCounter_eq (a : Apu) (v : Byte) :
    a.writeFrameCounter v = if v.toNat < 128 then { a with fsMode := false, fsCycle := 0 }
      else { a with
        fsMode := true, fsCycle := 0,
        p1 := a.p1.envelopeStep.lengthStep.sweepStep .p1, p2 := a.p2.envelopeStep.lengthStep.sweepStep .p2 } := by
  rw [Apu.writeFrameCounter, getLsbD_seven_eq_decide]
  by_cases h : v.toNat < 128
  · rw [if_pos h, decide_eq_false (Nat.not_le.mpr h)]
    rfl
  · rw [if_neg h, decide_eq_true (Nat.not_lt.mp h)]
    rfl

/-- Settles O57: each register by its fields in whole numbers; the tables are the model's own, written out. -/
theorem apuRegisters : Obligations.ApuRegisters := by
  intro a ch v n pattern
  exact ⟨ch.writeDuty_eq v, ch.writeSweep_eq v, ch.writeTimerLow_eq v, ch.writeTimerHigh_eq v, a.writeStatus_eq v,
    a.toNat_readStatus, a.writeFrameCounter_eq v⟩

/-! The frame sequencer (R401, R423). -/

theorem quarterCounts_eq (tv : TvSystem) : quarterCounts tv = if tv = .ntsc then [7457, 22371] else [8313, 24939] := by
  cases tv <;> rfl

theorem quarterHalfCounts_eq (tv : TvSystem) (mode : Bool) :
    quarterHalfCounts tv mode =
      if tv = .ntsc then (if mode = true then [14913, 37281] else [14913, 29829])
      else (if mode = true then [16627, 41565] else [16627, 33253]) := by
  cases tv <;> cases mode <;> rfl

theorem frameWrap_eq (tv : TvSystem) (mode : Bool) :
    frameWrap tv mode =
      if tv = .ntsc then (if mode = true then 37282 else 29830) else (if mode = true then 41566 else 33254) := by
  cases tv <;> cases mode <;> rfl

theorem frameWrap_pos (tv : TvSystem) (mode : Bool) : 0 < frameWrap tv mode := by cases tv <;> cases mode <;> decide

theorem Pulse.perform_frameEvent (w : Channel) (ch : Pulse) (tv : TvSystem) (mode : Bool) (count : Nat) :
    ch.perform w (frameEvent tv mode count) =
      if count ∈ quarterCounts tv then ch.envelopeStep
      else if count ∈ quarterHalfCounts tv mode then ch.envelopeStep.lengthStep.sweepStep w
      else ch := by
  unfold frameEvent
  split_ifs <;> rfl

theorem Apu.frameStep_eq (tv : TvSystem) (a : Apu) :
    a.frameStep tv = { a with
      p1 := a.p1.perform .p1 (frameEvent tv a.fsMode (a.fsCycle + 1)),
      p2 := a.p2.perform .p2 (frameEvent tv a.fsMode (a.fsCycle + 1)),
      fsCycle := if a.fsCycle + 1 = frameWrap tv a.fsMode then 0 else a.fsCycle + 1 } := by
  rw [Apu.frameStep, Apu.perform_eq]
  split <;> rfl

theorem Apu.timerStep_eq (a : Apu) :
    a.timerStep = { a with
      p1 := if a.half = true then a.p1.timerClock else a.p1, p2 := if a.half = true then a.p2.timerClock else a.p2,
      half := !a.half } := by
  unfold Apu.timerStep
  cases a.half <;> rfl

theorem Apu.tick_fsMode (tv : TvSystem) (a : Apu) : (a.tick tv).fsMode = a.fsMode := by
  rw [Apu.tick, Apu.timerStep_eq, Apu.frameStep_eq]

theorem Apu.tick_fsCycle (tv : TvSystem) (a : Apu) :
    (a.tick tv).fsCycle = if a.fsCycle + 1 = frameWrap tv a.fsMode then 0 else a.fsCycle + 1 := by
  rw [Apu.tick, Apu.timerStep_eq, Apu.frameStep_eq]

theorem Apu.iterate_tick_fsMode (tv : TvSystem) (a : Apu) (n : Nat) : ((Apu.tick tv)^[n] a).fsMode = a.fsMode := by
  induction n with
  | zero => rfl
  | succ n ih => rw [Function.iterate_succ_apply', Apu.tick_fsMode, ih]

/-- Counting up and wrapping to 0 at `m` is counting modulo `m`. -/
theorem wrapped_succ_mod {m : Nat} (hm : 0 < m) (n : Nat) : (if n % m + 1 = m then 0 else n % m + 1) = (n + 1) % m := by
  have hlt : n % m < m := Nat.mod_lt n hm
  rw [← Nat.mod_add_mod]
  split
  · next h => rw [h, Nat.mod_self]
  · next h => exact (Nat.mod_eq_of_lt (by omega)).symm

theorem Apu.iterate_tick_fsCycle (tv : TvSystem) {a : Apu} (h : a.fsCycle = 0) (n : Nat) :
    ((Apu.tick tv)^[n] a).fsCycle = n % frameWrap tv a.fsMode := by
  induction n with
  | zero => exact h.trans (Nat.zero_mod _).symm
  | succ n ih =>
    rw [Function.iterate_succ_apply', Apu.tick_fsCycle, Apu.iterate_tick_fsMode, ih, wrapped_succ_mod (frameWrap_pos tv a.fsMode)]

/-- Settles O58: a tick is the frame event of the new count on each channel and then the timers; the count over many ticks is by
induction on their number. -/
theorem apuTick : Obligations.ApuTick := by
  refine ⟨fun tv a => ?_, fun tv a n h => Apu.iterate_tick_fsCycle tv h n⟩
  rw [Apu.tick, Apu.timerStep_eq, Apu.frameStep_eq]
  simp only [Pulse.perform_frameEvent, quarterCounts_eq, quarterHalfCounts_eq, frameWrap_eq]

end Sys2Proof.Machine
end

section
/-! SUPPORT. The proofs of the statements about encoding and decoding (30_encoding.md R170 to R178): the opcode and the operand each
row of the table builds, and from them that decoding and encoding undo each other, which bytes are rejected, and how an operand is
made of its bytes. -/

namespace Sys2Proof

open Sys2Proof.Machine

/-! The operand of a mode and its bytes (R171, R173). -/

/-- The operand of a mode made of the two bytes after the opcode. -/
def AddrMode.operandOf (m : AddrMode) (b1 b2 : Byte) : Operand :=
  match m with
  | .imp => .imp
  | .acc => .acc
  | .imm => .imm b1
  | .zp => .zp b1
  | .zpx => .zpx b1
  | .zpy => .zpy b1
  | .abs => .abs (operandWord b1 b2)
  | .absx => .absx (operandWord b1 b2)
  | .absy => .absy (operandWord b1 b2)
  | .ind => .ind (operandWord b1 b2)
  | .indx => .indx b1
  | .indy => .indy b1
  | .rel => .rel b1.toInt

/-- A row builds an instruction of its own opcode, with the operand of its mode. -/
def OpcodeRow.BuildsOperand (r : OpcodeRow) : Prop :=
  ∀ b1 b2, (r.build b1 b2).opcode = r.opcode ∧ (r.build b1 b2).operand = r.mode.operandOf b1 b2

theorem opcodeTable_buildsOperand : ∀ r ∈ opcodeTable, r.BuildsOperand := by
  rw [← List.forall_iff_forall_mem]
  repeat' apply And.intro
  all_goals exact fun _ _ => ⟨rfl, rfl⟩

theorem lookupOpcode_buildsOperand {op : Byte} {r : OpcodeRow} (h : lookupOpcode op = some r) (b1 b2 : Byte) :
    (r.build b1 b2).opcode = op ∧ (r.build b1 b2).operand = r.mode.operandOf b1 b2 := by
  obtain ⟨hopcode, hoperand⟩ := opcodeTable_buildsOperand r (List.mem_of_find?_eq_some h) b1 b2
  have hop : r.opcode = op := by simpa using List.find?_some h
  exact ⟨hopcode.trans hop, hoperand⟩

/-- A byte made a signed number and back, and a signed number in a byte's range made a byte and back. -/
theorem ofInt_toInt_byte (b : Byte) : BitVec.ofInt 8 b.toInt = b := BitVec.ofInt_toInt

theorem toInt_ofInt_byte {d : Int} (hlow : -128 ≤ d) (hhigh : d ≤ 127) : (BitVec.ofInt 8 d).toInt = d := by
  rw [BitVec.toInt_ofInt]
  exact Int.bmod_eq_of_le (by omega) (by omega)

/-- The two bytes of an address make it again, and an address made of two bytes has them. -/
theorem operandWord_bytes (a : Addr) : operandWord (a.extractLsb' 0 8) (a.extractLsb' 8 8) = a :=
  BitVec.eq_of_toNat_eq (by rw [toNat_operandWord, toNat_bitSlice, toNat_bitSlice]; omega)

theorem lowByte_operandWord (b1 b2 : Byte) : (operandWord b1 b2).extractLsb' 0 8 = b1 :=
  BitVec.eq_of_toNat_eq (by rw [toNat_bitSlice, toNat_operandWord]; omega)

theorem highByte_operandWord (b1 b2 : Byte) : (operandWord b1 b2).extractLsb' 8 8 = b2 :=
  BitVec.eq_of_toNat_eq (by rw [toNat_bitSlice, toNat_operandWord]; omega)

/-- The bytes of a mode's operand are as many of the two as the mode has. -/
theorem bytes_operandOf (m : AddrMode) (b1 b2 : Byte) : (m.operandOf b1 b2).bytes = [b1, b2].take (m.length - 1) := by
  cases m with
  | imp | acc | imm | zp | zpx | zpy | indx | indy => rfl
  | abs | absx | absy | ind =>
    simp only [AddrMode.operandOf, Operand.bytes, lowByte_operandWord, highByte_operandWord]
    rfl
  | rel =>
    simp only [AddrMode.operandOf, Operand.bytes, ofInt_toInt_byte]
    rfl

theorem wellFormed_rel_iff (d : Int) : (Operand.rel d).wellFormed = true ↔ -128 ≤ d ∧ d ≤ 127 := by
  simp only [Operand.wellFormed, Bool.and_eq_true, decide_eq_true_eq]

/-- Whatever bytes an operand is made of, its encoding can hold it. -/
theorem wellFormed_operandOf (m : AddrMode) (b1 b2 : Byte) : (m.operandOf b1 b2).wellFormed = true := by
  cases m with
  | rel =>
    have hlow := BitVec.le_toInt b1
    have hhigh := BitVec.toInt_lt (x := b1)
    exact (wellFormed_rel_iff b1.toInt).mpr (by omega)
  | _ => rfl

/-! Decoding (R170, R175). -/

/-- What decoding tells of an instruction: it is well formed, and the bytes are its encoding and the rest. -/
theorem decode_ok_encode {bytes rest : List Byte} {i : Instr} (h : decode bytes = .ok (i, rest)) :
    i.wellFormed = true ∧ bytes = encode i ++ rest := by
  cases bytes with
  | nil => cases h
  | cons op tail =>
    obtain ⟨r, hr, hbytes⟩ := decode_cons_ok h
    have hbuilt (b1 b2 : Byte) : (r.build b1 b2).wellFormed = true ∧
        encode (r.build b1 b2) = op :: [b1, b2].take (r.mode.length - 1) := by
      obtain ⟨hopcode, hoperand⟩ := lookupOpcode_buildsOperand hr b1 b2
      exact ⟨by rw [Instr.wellFormed, hoperand, wellFormed_operandOf], by rw [encode, hopcode, hoperand, bytes_operandOf]⟩
    obtain ⟨hlen, rfl, rfl⟩ | ⟨hlen, b1, rfl, rfl⟩ | ⟨hlen, b1, b2, rfl, rfl⟩ := hbytes
    · exact ⟨(hbuilt 0 0).1, by rw [(hbuilt 0 0).2, hlen]; rfl⟩
    · exact ⟨(hbuilt b1 0).1, by rw [(hbuilt b1 0).2, hlen]; rfl⟩
    · exact ⟨(hbuilt b1 b2).1, by rw [(hbuilt b1 b2).2, hlen]; rfl⟩

/-- Settles O2: a decoded instruction is what its row builds, and the row builds the opcode and the operand bytes it was read from. -/
theorem encodeOfDecode : Obligations.EncodeOfDecode := fun _ _ _ h => decode_ok_encode h

/-- An instruction's bytes decode to it: with no operand or one byte of it by evaluation of the table; an address is the word of its
two bytes, and a branch offset the signed number of its byte. -/
theorem decode_encode (i : Instr) (rest : List Byte) (h : i.wellFormed = true) : decode (encode i ++ rest) = .ok (i, rest) := by
  cases i with
  | ldaAbs a | ldxAbs a | ldyAbs a | staAbs a | stxAbs a | styAbs a | adcAbs a | sbcAbs a | andAbs a | oraAbs a | eorAbs a
  | cmpAbs a | cpxAbs a | cpyAbs a | bitAbs a | aslAbs a | lsrAbs a | rolAbs a | rorAbs a | incAbs a | decAbs a | jmpAbs a
  | jsrAbs a | ldaAbsX a | ldyAbsX a | staAbsX a | adcAbsX a | sbcAbsX a | andAbsX a | oraAbsX a | eorAbsX a | cmpAbsX a
  | aslAbsX a | lsrAbsX a | rolAbsX a | rorAbsX a | incAbsX a | decAbsX a | ldaAbsY a | ldxAbsY a | staAbsY a | adcAbsY a
  | sbcAbsY a | andAbsY a | oraAbsY a | eorAbsY a | cmpAbsY a | jmpInd a =>
    conv_rhs => rw [← operandWord_bytes a]
    rfl
  | bpl d | bmi d | bvc d | bvs d | bcc d | bcs d | bne d | beq d =>
    obtain ⟨hlow, hhigh⟩ := (wellFormed_rel_iff d).mp h
    conv_rhs => rw [← toInt_ofInt_byte hlow hhigh]
    rfl
  | _ => rfl

/-- Settles O1: by the kinds of operand an encoding holds. -/
theorem decodeOfEncode : Obligations.DecodeOfEncode := decode_encode

/-- Settles O6: each word by evaluation of the decoder. -/
theorem sampleWordsDecode : Obligations.SampleWordsDecode := by
  repeat' apply And.intro
  all_goals rfl

/-! The illegal bytes (R177). -/

/-- The listed bytes are the dashes of the printed map, and so the bytes without a row. -/
theorem mem_illegalBytes_iff (op : Byte) : op ∈ illegalBytes ↔ lookupOpcode op = none := by
  have h : ∀ n : Fin 256, BitVec.ofFin n ∈ illegalBytes ↔ opcodeGrid (BitVec.ofFin n) = none := by decide +kernel
  rw [← Option.map_eq_none_iff, lookupOpcode_eq_opcodeGrid]
  exact h op.toFin

theorem decode_illegal_iff (op : Byte) (rest : List Byte) :
    decode (op :: rest) = .error (.illegalOpcode op) ↔ lookupOpcode op = none := by
  cases hr : lookupOpcode op with
  | none => simp only [decode, hr]
  | some r =>
    simp only [decode, hr, reduceCtorEq, iff_false]
    split <;> simp

/-- Settles O3: the list by evaluation; a byte without a row is rejected as illegal, and one with a row is not. -/
theorem illegalBytesRejected : Obligations.IllegalBytesRejected :=
  ⟨rfl, by decide +kernel, fun op rest => (mem_illegalBytes_iff op).trans (decode_illegal_iff op rest).symm⟩

/-! How an operand is made (R173). -/

theorem toInt_byte_eq (b : Byte) : b.toInt = if b.toNat < 128 then (b.toNat : Int) else b.toNat - 256 := by
  rw [BitVec.toInt_eq_toNat_cond]
  split <;> split <;> omega

/-- What decoding with two bytes to spare tells of an operand: it is its mode's of those two bytes, and only the mode's bytes are
taken. -/
theorem decode_operand {op b1 b2 : Byte} {rest tail : List Byte} {i : Instr} (h : decode (op :: b1 :: b2 :: rest) = .ok (i, tail)) :
    ∃ m : AddrMode, i.operand = m.operandOf b1 b2 ∧ tail = (b1 :: b2 :: rest).drop (m.length - 1) := by
  obtain ⟨r, hr, hbytes⟩ := decode_cons_ok h
  have hoperand (c1 c2 : Byte) : (r.build c1 c2).operand = r.mode.operandOf c1 c2 := (lookupOpcode_buildsOperand hr c1 c2).2
  refine ⟨r.mode, ?_⟩
  obtain ⟨hlen, rfl, rfl⟩ | ⟨hlen, c1, rfl, hrest⟩ | ⟨hlen, c1, c2, rfl, hrest⟩ := hbytes
  · refine ⟨?_, by rw [hlen]; rfl⟩
    rw [hoperand]
    cases hmode : r.mode with
    | imp | acc => rfl
    | _ => rw [hmode] at hlen; cases hlen
  · simp only [List.cons.injEq] at hrest
    obtain ⟨rfl, rfl⟩ := hrest
    refine ⟨?_, by rw [hlen]; rfl⟩
    rw [hoperand]
    cases hmode : r.mode with
    | abs | absx | absy | ind => rw [hmode] at hlen; cases hlen
    | _ => rfl
  · simp only [List.cons.injEq] at hrest
    obtain ⟨rfl, rfl, rfl⟩ := hrest
    exact ⟨hoperand _ _, by rw [hlen]; rfl⟩

/-- Settles O7: the operand of each mode, its word or its signed number in whole numbers. -/
theorem operandAssembly : Obligations.OperandAssembly := by
  intro op b1 b2 rest i tail h
  obtain ⟨m, hoperand, htail⟩ := decode_operand h
  rw [hoperand]
  cases m with
  | imp | acc => exact htail
  | imm | zp | zpx | zpy | indx | indy => exact ⟨rfl, htail⟩
  | abs | absx | absy | ind => exact ⟨toNat_operandWord b1 b2, htail⟩
  | rel => exact ⟨toInt_byte_eq b1, htail⟩

end Sys2Proof
end

section
/-! SUPPORT. What an instruction can do, once for all of them: the seven shapes of a next state (`ExecShape`), and the bus accesses and
register changes a next state is reached by (`Accesses`). The proofs of the statements about what an instruction leaves alone. -/

namespace Sys2Proof.Machine

/-! The effects of the mnemonics, by shape. -/

/-- What each mnemonic that reads its operand and changes registers does with the byte read (files 40 and 42). -/
def readEffect : Mnemonic → Option (State → Byte → State)
  | .lda => some loadA
  | .ldx => some loadX
  | .ldy => some loadY
  | m => aluEffect m

/-- The register a store stores (40_load_store.md R205 to R207). -/
def storedRegister : Mnemonic → Option (Cpu → Byte)
  | .sta => some Cpu.a
  | .stx => some Cpu.x
  | .sty => some Cpu.y
  | _ => none

/-- What each Implied instruction that is no control transfer does (files 41, 43 and 45). -/
def impliedEffect : Mnemonic → Option (State → State)
  | .tax => some fun t => loadX t t.cpu.a
  | .tay => some fun t => loadY t t.cpu.a
  | .txa => some fun t => loadA t t.cpu.x
  | .tya => some fun t => loadA t t.cpu.y
  | .tsx => some fun t => loadX t t.cpu.sp
  | .txs => some fun t => t.setSp t.cpu.x
  | .inx => some fun t => loadX t (t.cpu.x + 1)
  | .iny => some fun t => loadY t (t.cpu.y + 1)
  | .dex => some fun t => loadX t (t.cpu.x - 1)
  | .dey => some fun t => loadY t (t.cpu.y - 1)
  | .pha => some fun t => push t.cpu.a t
  | .php => some pushFlags
  | .pla => some pullA
  | .plp => some pullFlags
  | .clc => some fun t => t.setP { t.cpu.p with c := false }
  | .sec => some fun t => t.setP { t.cpu.p with c := true }
  | .cli => some fun t => t.setP { t.cpu.p with i := false }
  | .sei => some fun t => t.setP { t.cpu.p with i := true }
  | .clv => some fun t => t.setP { t.cpu.p with v := false }
  | .cld => some fun t => t.setP { t.cpu.p with d := false }
  | .sed => some fun t => t.setP { t.cpu.p with d := true }
  | .nop => some id
  | _ => none

/-- The next states of an instruction, by its shape: it reads its operand, stores a register, modifies its operand, is Implied, or
transfers control. -/
inductive ExecShape (i : Instr) (s : State) : State → Prop
  | read {f : State → Byte → State} (h : readEffect i.mnemonic = some f) :
    ExecShape i s ((f (dataRead i.operand s).2 (dataRead i.operand s).1).finished i s)
  | store {reg : Cpu → Byte} (h : storedRegister i.mnemonic = some reg) :
    ExecShape i s ((cpuWrite (address i.operand s).cpu.ea (reg s.cpu) (address i.operand s)).finished i s)
  | modify {f : ShiftFn} (h : rmwEffect i.mnemonic = some f) :
    ExecShape i s (rmwFinished i s (f (dataRead i.operand s).1 s.cpu.p.c))
  | implied {f : State → State} (h : impliedEffect i.mnemonic = some f) (hi : i.operand = .imp) :
    ExecShape i s ((f (address .imp s)).finished i s)
  | jump (pc : Addr) {n : Nat} (h : i.mnemonic ∈ [.jmp, .bpl, .bmi, .bvc, .bvs, .bcc, .bcs, .bne, .beq]) (hn : n ≤ 7) :
    ExecShape i s (((address i.operand s).setPc pc).setCountdown n)
  | call (h : i.mnemonic = .jsr) (ret pc : Addr) :
    ExecShape i s (((pushAddr ret (address i.operand s)).setPc pc).setCountdown 6)
  | back (h : i.mnemonic = .rts) (pc : Addr) : ExecShape i s (((pullAddr (address .imp s)).2.setPc pc).setCountdown 6)
  | trap (h : i.mnemonic = .brk) (ret : Addr) :
    ExecShape i s ((takeInterrupt ret true brkVector (address .imp s)).setCountdown 7)
  | resume (h : i.mnemonic = .rti) : ExecShape i s ((returnFromInterrupt (address .imp s)).setCountdown 6)

theorem exec_read {i : Instr} {f : State → Byte → State} (h : readEffect i.mnemonic = some f) (s : State) :
    exec i s = .next ((f (dataRead i.operand s).2 (dataRead i.operand s).1).finished i s) := by
  cases hm : i.mnemonic with
  | lda =>
    rw [hm] at h
    cases h
    exact (exec_lda hm s).trans (readInstr_finished i loadA s fun _ _ => rfl)
  | ldx =>
    rw [hm] at h
    cases h
    exact (exec_ldx hm s).trans (readInstr_finished i loadX s fun _ _ => rfl)
  | ldy =>
    rw [hm] at h
    cases h
    exact (exec_ldy hm s).trans (readInstr_finished i loadY s fun _ _ => rfl)
  | _ => 
    refine exec_alu ?_ s
    rw [hm] at h ⊢
    exact h

theorem exec_store {i : Instr} {reg : Cpu → Byte} (h : storedRegister i.mnemonic = some reg) (s : State) :
    exec i s = .next ((cpuWrite (address i.operand s).cpu.ea (reg s.cpu) (address i.operand s)).finished i s) := by
  obtain ⟨hsta, hstx, hsty⟩ : _ ∧ _ ∧ _ := (loadsAndStores i s).2.2.2
  cases hm : i.mnemonic with
  | sta => rw [hm] at h; cases h; exact hsta hm
  | stx => rw [hm] at h; cases h; exact hstx hm
  | sty => rw [hm] at h; cases h; exact hsty hm
  | _ => rw [hm] at h; cases h

theorem impliedEffect_pc {m : Mnemonic} {f : State → State} (h : impliedEffect m = some f) (t : State) :
    (f t).cpu.pc = t.cpu.pc := by
  cases m with
  | pha | php => cases h; simp only [pushFlags, push_eq]
  | pla | plp => cases h; simp only [pullA, pullFlags, pull_eq]; rfl
  | tax | tay | txa | tya | tsx | txs | inx | iny | dex | dey | clc | sec | cli | sei | clv | cld | sed | nop => cases h; rfl
  | _ => cases h

theorem exec_impliedInstr {i : Instr} {f : State → State} (h : impliedEffect i.mnemonic = some f) (s : State) :
    i.operand = .imp ∧ exec i s = impliedInstr (regularCost i.mnemonic i.operand.mode) f s := by
  cases i with
  | tax | tay | txa | tya | tsx | txs | inx | iny | dex | dey | pha | php | pla | plp
  | clc | sec | cli | sei | clv | cld | sed | nop =>
    cases h
    exact ⟨rfl, rfl⟩
  | _ => cases h

theorem exec_implied {i : Instr} {f : State → State} (h : impliedEffect i.mnemonic = some f) (s : State) :
    i.operand = .imp ∧ exec i s = .next ((f (address .imp s)).finished i s) := by
  obtain ⟨hi, hexec⟩ := exec_impliedInstr h s
  exact ⟨hi, hexec.trans (impliedInstr_finished i f s hi (impliedEffect_pc h))⟩

/-- What each branch asks of the flags (44_control_flow.md R286 to R293). -/
def branchCondition : Mnemonic → Option (Flags → Bool)
  | .bpl => some fun p => !p.n
  | .bmi => some fun p => p.n
  | .bvc => some fun p => !p.v
  | .bvs => some fun p => p.v
  | .bcc => some fun p => !p.c
  | .bcs => some fun p => p.c
  | .bne => some fun p => !p.z
  | .beq => some fun p => p.z
  | _ => none

theorem exec_branch {i : Instr} {cond : Flags → Bool} (h : branchCondition i.mnemonic = some cond) (s : State) :
    ∃ d, i.operand = .rel d ∧ exec i s = branchInstr d cond s := by
  cases i with
  | bpl d | bmi d | bvc d | bvs d | bcc d | bcs d | bne d | beq d =>
    cases h
    exact ⟨d, rfl, rfl⟩
  | _ => cases h

/-- Every next state has its instruction's shape. -/
theorem exec_shape {i : Instr} {s t : State} (h : exec i s = .next t) : ExecShape i s t := by
  cases hm : i.mnemonic with
  | lda | ldx | ldy | adc | sbc | and | ora | eor | cmp | cpx | cpy | bit =>
    obtain ⟨f, hf⟩ : ∃ f, readEffect i.mnemonic = some f := ⟨_, by rw [hm]; rfl⟩
    rw [exec_read hf] at h
    cases h
    exact .read hf
  | sta | stx | sty =>
    obtain ⟨reg, hreg⟩ : ∃ reg, storedRegister i.mnemonic = some reg := ⟨_, by rw [hm]; rfl⟩
    rw [exec_store hreg] at h
    cases h
    exact .store hreg
  | asl | lsr | rol | ror | inc | dec =>
    obtain ⟨f, hf⟩ : ∃ f, rmwEffect i.mnemonic = some f := ⟨_, by rw [hm]; rfl⟩
    rw [exec_rmw hf] at h
    cases h
    exact .modify hf
  | tax | tay | txa | tya | tsx | txs | inx | iny | dex | dey | pha | php | pla | plp
  | clc | sec | cli | sei | clv | cld | sed | nop =>
    obtain ⟨f, hf⟩ : ∃ f, impliedEffect i.mnemonic = some f := ⟨_, by rw [hm]; rfl⟩
    obtain ⟨hi, hexec⟩ := exec_implied hf s
    rw [hexec] at h
    cases h
    exact .implied hf hi
  | bpl | bmi | bvc | bvs | bcc | bcs | bne | beq =>
    obtain ⟨cond, hcond⟩ : ∃ cond, branchCondition i.mnemonic = some cond := ⟨_, by rw [hm]; rfl⟩
    obtain ⟨d, hi, hexec⟩ := exec_branch hcond s
    simp only [hexec, branchInstr, ← hi] at h
    split at h
    · cases h; exact .jump _ (by simp [hm]) (by split <;> omega)
    · cases h; exact .jump _ (by simp [hm]) (by omega)
  | jmp =>
    cases i with
    | jmpAbs | jmpInd => cases h; exact .jump _ (by simp [hm]) (by omega)
    | _ => cases hm
  | jsr =>
    cases i with
    | jsrAbs => cases h; exact .call rfl _ _
    | _ => cases hm
  | rts =>
    cases i with
    | rts => cases h; exact .back rfl _
    | _ => cases hm
  | brk =>
    cases i with
    | brk => cases h; exact .trap rfl _
    | _ => cases hm
  | rti =>
    cases i with
    | rti => cases h; exact .resume rfl
    | _ => cases hm

/-! Bus accesses and register changes. -/

/-- `t` differs from `s` in the registers an instruction works on, at most. -/
def RegistersOnly (s t : State) : Prop := t.withRegisters s.cpu = s

/-- Whatever is not a register is as it was. -/
theorem RegistersOnly.eq {s t : State} (h : RegistersOnly s t) : t = s.withRegisters t.cpu :=
  calc t = (t.withRegisters s.cpu).withRegisters t.cpu := rfl
    _ = s.withRegisters t.cpu := by rw [h]

theorem RegistersOnly.trans {s t u : State} (h : RegistersOnly s t) (h' : RegistersOnly t u) : RegistersOnly s u :=
  calc u.withRegisters s.cpu = (u.withRegisters t.cpu).withRegisters s.cpu := rfl
    _ = t.withRegisters s.cpu := by rw [h']
    _ = s := h

theorem BusOnly.withRegisters {s t : State} (h : BusOnly s t) : t.withRegisters s.cpu = t :=
  calc t.withRegisters s.cpu = (s.afterBus t).withRegisters s.cpu := congrArg (State.withRegisters · s.cpu) h
    _ = s.afterBus t := rfl
    _ = t := h.symm

theorem ReadsOnly.withRegisters {s t : State} (h : ReadsOnly s t) : t.withRegisters s.cpu = t := h.bus.withRegisters

/-- `t` comes of `s` by bus reads and changes of registers, and by bus writes where `stores` allows them. -/
inductive Accesses (stores : Bool) : State → State → Prop
  | registers {s t : State} (h : RegistersOnly s t) : Accesses stores s t
  | read (a : Addr) (s : State) : Accesses stores s (cpuRead a s).2
  | write (h : stores = true) (a : Addr) (v : Byte) (s : State) : Accesses stores s (cpuWrite a v s)
  | trans {s t u : State} (h : Accesses stores s t) (h' : Accesses stores t u) : Accesses stores s u

/-- Bus accesses and register changes change the registers and what `State.afterBus` names, at most. -/
theorem Accesses.bus {w : Bool} {s t : State} (h : Accesses w s t) : BusOnly s (t.withRegisters s.cpu) := by
  induction h with
  | registers h => exact h.symm ▸ BusOnly.refl _
  | read a s =>
    have hread := (cpuRead_readsOnly a s).bus
    exact hread.withRegisters.symm ▸ hread
  | write _ a v s =>
    have hwrite := cpuWrite_busOnly a v s
    exact hwrite.withRegisters.symm ▸ hwrite
  | @trans s t u _ _ ih ih' => exact ih.trans (congrArg (State.withRegisters · s.cpu) ih')

/-- Without bus writes, they change the registers and what `State.afterReads` names, at most. -/
theorem Accesses.reads {w : Bool} {s t : State} (h : Accesses w s t) (hw : w = false) : ReadsOnly s (t.withRegisters s.cpu) := by
  induction h with
  | registers h => exact h.symm ▸ ReadsOnly.refl _
  | read a s =>
    have hread := cpuRead_readsOnly a s
    exact hread.withRegisters.symm ▸ hread
  | write h => cases h.symm.trans hw
  | @trans s t u _ _ ih ih' => exact ih.trans (congrArg (State.withRegisters · s.cpu) ih')

/-! The shared operations as accesses. -/

variable {w : Bool}

theorem Accesses.setPc {s t : State} (h : Accesses w s t) (a : Addr) : Accesses w s (t.setPc a) := h.trans (.registers rfl)

theorem Accesses.setP {s t : State} (h : Accesses w s t) (p : Flags) : Accesses w s (t.setP p) := h.trans (.registers rfl)

theorem Accesses.setCountdown {s t : State} (h : Accesses w s t) (n : Nat) : Accesses w s (t.setCountdown n) :=
  h.trans (.registers rfl)

theorem Accesses.finished {s t : State} (h : Accesses w s t) (i : Instr) (s' : State) : Accesses w s (t.finished i s') :=
  h.trans (.registers rfl)

/-- The modes whose address computation reads no pointer. -/
theorem address_registersOnly {o : Operand} (h : o.mode ∉ [.ind, .indx, .indy]) (s : State) : RegistersOnly s (address o s) := by
  cases o with
  | ind | indx | indy => simp [Operand.mode] at h
  | _ => rfl

theorem address_accesses (o : Operand) (s : State) : Accesses w s (address o s) := by
  cases o with
  | ind a => exact ((Accesses.read a s).trans (.read _ _)).trans (.registers rfl)
  | indx z => exact ((Accesses.read _ s).trans (.read _ _)).trans (.registers rfl)
  | indy z => exact ((Accesses.read _ s).trans (.read _ _)).trans (.registers rfl)
  | _ => exact .registers rfl

theorem dataRead_registersOnly {o : Operand} (h : o.mode ∈ [.imm, .acc]) (s : State) : RegistersOnly s (dataRead o s).2 := by
  cases o with
  | imm | acc => rfl
  | _ => simp [Operand.mode] at h

theorem dataRead_accesses (o : Operand) (s : State) : Accesses w s (dataRead o s).2 := by
  cases o with
  | imm | acc => exact .registers rfl
  | _ => exact (address_accesses _ s).trans (.read _ _)

theorem operandWrite_accesses (o : Operand) (v : Byte) (s : State) (hw : o = .acc ∨ w = true) :
    Accesses w s (operandWrite o v s) := by
  rw [operandWrite_eq_ite]
  split
  · exact .registers rfl
  · next hacc => exact .write (hw.resolve_left hacc) _ _ s

theorem push_accesses (hw : w = true) (v : Byte) (s : State) : Accesses w s (push v s) :=
  (Accesses.write hw _ v s).trans (.registers rfl)

theorem pushAddr_accesses (hw : w = true) (a : Addr) (s : State) : Accesses w s (pushAddr a s) :=
  (push_accesses hw _ s).trans (push_accesses hw _ _)

theorem pull_registersOnly (s : State) : RegistersOnly s (pull s).2 := by
  rw [pull_eq]
  rfl

theorem takeInterrupt_accesses (hw : w = true) (ret : Addr) (brk : Bool) (vector : Addr) (s : State) :
    Accesses w s (takeInterrupt ret brk vector s) := by
  exact ((((((pushAddr_accesses hw ret s).setP _).trans (push_accesses hw _ _)).setP _).trans
    (.read vector _)).trans (.read (vector + 1) _)).setPc _

theorem pullAddr_registersOnly (s : State) : RegistersOnly s (pullAddr s).2 := by
  rw [pullAddr_eq]
  rfl

theorem returnFromInterrupt_registersOnly (s : State) : RegistersOnly s (returnFromInterrupt s) := by
  rw [returnFromInterrupt_eq]
  rfl

/-! What an instruction can do, as accesses. -/

theorem readEffect_registersOnly {m : Mnemonic} {f : State → Byte → State} (h : readEffect m = some f) (t : State) (v : Byte) :
    RegistersOnly t (f t v) := by
  cases m with
  | lda | ldx | ldy | adc | sbc | and | ora | eor | cmp | cpx | cpy | bit => cases h; rfl
  | _ => cases h

theorem impliedEffect_registersOnly {m : Mnemonic} {f : State → State} (h : impliedEffect m = some f)
    (hm : storesSomewhere m = false) (t : State) : RegistersOnly t (f t) := by
  cases m with
  | pla | plp => cases h; exact (pull_registersOnly t).trans rfl
  | tax | tay | txa | tya | tsx | txs | inx | iny | dex | dey | clc | sec | cli | sei | clv | cld | sed | nop => cases h; rfl
  | pha | php => cases hm
  | _ => cases h

theorem impliedEffect_accesses {m : Mnemonic} {f : State → State} (h : impliedEffect m = some f) (t : State) :
    Accesses (storesSomewhere m) t (f t) := by
  cases hm : storesSomewhere m with
  | false => exact .registers (impliedEffect_registersOnly h hm t)
  | true =>
    cases m with
    | pha | php => cases h; exact push_accesses rfl _ t
    | sta | stx | sty | asl | lsr | rol | ror | inc | dec | jsr | brk => cases h
    | _ => cases hm

/-- The instruction writes to the bus: its mnemonic stores in some form, and this form is not the accumulator's. -/
def storesToBus (i : Instr) : Bool := storesSomewhere i.mnemonic && i.operand != .acc

/-- No store, no stack instruction, no call and no interrupt has an accumulator form. -/
theorem storesToBus_of_mnemonic {i : Instr} (h : i.mnemonic ∈ [.sta, .stx, .sty, .pha, .php, .jsr, .brk]) :
    storesToBus i = true := by
  cases i with
  | staZp | staZpX | staAbs | staAbsX | staAbsY | staIndX | staIndY | stxZp | stxZpY | stxAbs | styZp | styZpX | styAbs
  | pha | php | jsrAbs | brk => rfl
  | _ => simp [Instr.mnemonic] at h

theorem storedRegister_mnemonic {m : Mnemonic} {reg : Cpu → Byte} (h : storedRegister m = some reg) :
    m ∈ [.sta, .stx, .sty, .pha, .php, .jsr, .brk] := by
  cases m with
  | sta | stx | sty => decide
  | _ => cases h

theorem rmwEffect_storesSomewhere {m : Mnemonic} {f : ShiftFn} (h : rmwEffect m = some f) : storesSomewhere m = true := by
  cases m with
  | asl | lsr | rol | ror | inc | dec => rfl
  | _ => cases h

theorem rmwFinished_accesses (i : Instr) (s : State) (out : Byte × Bool) (hw : i.operand = .acc ∨ w = true) :
    Accesses w s (rmwFinished i s out) := by
  have hput : Accesses w s (operandWrite i.operand out.1 ((dataRead i.operand s).2.setP { s.cpu.p with c := out.2 })) :=
    ((dataRead_accesses i.operand s).setP _).trans (operandWrite_accesses _ _ _ hw)
  exact (hput.setP _).finished i s

/-- Every next state of an instruction is reached by bus accesses and register changes, without a bus write if it stores nothing. -/
theorem ExecShape.accesses {i : Instr} {s t : State} (h : ExecShape i s t) : Accesses (storesToBus i) s t := by
  cases h with
  | read h =>
    exact ((dataRead_accesses _ s).trans (.registers (readEffect_registersOnly h _ _))).finished i s
  | store h =>
    have hw := storesToBus_of_mnemonic (storedRegister_mnemonic h)
    exact ((address_accesses _ s).trans (.write hw _ _ _)).finished i s
  | modify h =>
    refine rmwFinished_accesses i s _ (or_iff_not_imp_left.mpr fun hacc => ?_)
    simp [storesToBus, rmwEffect_storesSomewhere h, hacc]
  | implied h hi =>
    have hw : storesToBus i = storesSomewhere i.mnemonic := by simp [storesToBus, hi]
    rw [hw]
    exact ((address_accesses _ s).trans (impliedEffect_accesses h _)).finished i s
  | jump pc => exact ((address_accesses _ s).setPc pc).setCountdown _
  | call h =>
    have hw := storesToBus_of_mnemonic (i := i) (by simp [h])
    exact (((address_accesses _ s).trans (pushAddr_accesses hw _ _)).setPc _).setCountdown 6
  | back =>
    exact (((address_accesses _ s).trans (.registers (pullAddr_registersOnly _))).setPc _).setCountdown 6
  | trap h =>
    have hw := storesToBus_of_mnemonic (i := i) (by simp [h])
    exact ((address_accesses _ s).trans (takeInterrupt_accesses hw _ _ _ _)).setCountdown 7
  | resume => exact ((address_accesses _ s).trans (.registers (returnFromInterrupt_registersOnly _))).setCountdown 6

theorem exec_accesses {i : Instr} {s t : State} (h : exec i s = .next t) : Accesses (storesToBus i) s t := (exec_shape h).accesses

/-! Frames. -/

theorem mode_of_readEffect {i : Instr} {f : State → Byte → State} (h : readEffect i.mnemonic = some f)
    (hi : makesNoDataAccess i = true) : i.operand.mode = .imm := by
  unfold makesNoDataAccess at hi
  cases hm : i.mnemonic with
  | lda | ldx | ldy | adc | sbc | and | ora | eor | cmp | cpx | cpy | bit => simpa [hm] using hi
  | _ => rw [hm] at h; cases h

theorem operand_of_rmwEffect {i : Instr} {f : ShiftFn} (h : rmwEffect i.mnemonic = some f) (hi : makesNoDataAccess i = true) :
    i.operand = .acc := by
  have hmode : i.operand.mode = .acc := by
    unfold makesNoDataAccess at hi
    cases hm : i.mnemonic with
    | asl | lsr | rol | ror | inc | dec => simpa [hm] using hi
    | _ => rw [hm] at h; cases h
  cases ho : i.operand with
  | acc => rfl
  | _ => rw [ho] at hmode; cases hmode

/-- A jump or branch that makes no data access computes its address without a pointer. -/
theorem mode_of_jump {i : Instr} (h : i.mnemonic ∈ [.jmp, .bpl, .bmi, .bvc, .bvs, .bcc, .bcs, .bne, .beq])
    (hi : makesNoDataAccess i = true) : i.operand.mode ∉ [.ind, .indx, .indy] := by
  cases i with
  | jmpAbs | bpl | bmi | bvc | bvs | bcc | bcs | bne | beq => simp [Instr.operand, Operand.mode]
  | jmpInd => cases hi
  | _ => simp [Instr.mnemonic] at h

theorem storesSomewhere_of_impliedEffect {i : Instr} {f : State → State} (h : impliedEffect i.mnemonic = some f)
    (hi : makesNoDataAccess i = true) : storesSomewhere i.mnemonic = false := by
  unfold makesNoDataAccess at hi
  cases hm : i.mnemonic with
  | pha | php => simp [hm] at hi
  | sta | stx | sty | asl | lsr | rol | ror | inc | dec | jsr | brk => rw [hm] at h; cases h
  | _ => rfl

theorem RegistersOnly.finished {s t : State} (h : RegistersOnly s t) (i : Instr) (s' : State) : RegistersOnly s (t.finished i s') :=
  h.trans rfl

/-- An instruction form without a data access changes registers only. -/
theorem ExecShape.registersOnly {i : Instr} {s t : State} (h : ExecShape i s t) (hi : makesNoDataAccess i = true) :
    RegistersOnly s t := by
  cases h with
  | read h =>
    have hmode := mode_of_readEffect h hi
    exact ((dataRead_registersOnly (by simp [hmode]) s).trans (readEffect_registersOnly h _ _)).finished i s
  | store h =>
    unfold makesNoDataAccess at hi
    cases hm : i.mnemonic with
    | sta | stx | sty => simp [hm] at hi
    | _ => rw [hm] at h; cases h
  | modify h =>
    have hacc := operand_of_rmwEffect h hi
    rw [rmwFinished, hacc]
    rfl
  | implied h hi' =>
    have hregisters := impliedEffect_registersOnly h (storesSomewhere_of_impliedEffect h hi) (address .imp s)
    exact ((address_registersOnly (by simp [Operand.mode]) s).trans hregisters).finished i s
  | jump pc h => exact (address_registersOnly (mode_of_jump h hi) s).trans rfl
  | call h | back h | trap h | resume h => simp [makesNoDataAccess, h] at hi

/-- Settles O12: a next state is reached by bus accesses and register changes, which leave the devices to the bus; by its shape
a form without a data access changes registers only. -/
theorem deviceFrame : Obligations.DeviceFrame := by
  intro i s t h
  have haccesses := exec_accesses h
  refine ⟨haccesses.bus, fun hw => haccesses.reads ?_, (exec_shape h).registersOnly⟩
  rcases hw with hw | hw <;> simp [storesToBus, hw]

/-! Registers and flags. -/

/-- What an instruction of mnemonic `m` leaves of the registers and flags; `acc` says that it is an accumulator form. -/
structure RegistersKept (m : Mnemonic) (acc : Prop) (c c' : Cpu) : Prop where
  a : m ∉ [.lda, .txa, .tya, .pla, .adc, .sbc, .and, .ora, .eor] → ¬ acc → c'.a = c.a
  x : m ∉ [.ldx, .tax, .tsx, .inx, .dex] → c'.x = c.x
  y : m ∉ [.ldy, .tay, .iny, .dey] → c'.y = c.y
  sp : m ∉ [.txs, .pha, .php, .pla, .plp, .jsr, .rts, .brk, .rti] → c'.sp = c.sp
  carry : m ∉ [.adc, .sbc, .cmp, .cpx, .cpy, .asl, .lsr, .rol, .ror, .clc, .sec, .plp, .rti] → c'.p.c = c.p.c
  zn : m ∉ [.lda, .ldx, .ldy, .tax, .tay, .txa, .tya, .tsx, .pla, .adc, .sbc, .and, .ora, .eor, .cmp, .cpx, .cpy, .bit,
      .asl, .lsr, .rol, .ror, .inc, .dec, .inx, .iny, .dex, .dey, .plp, .rti] → c'.p.z = c.p.z ∧ c'.p.n = c.p.n
  i : m ∉ [.cli, .sei, .plp, .rti, .brk] → c'.p.i = c.p.i
  d : m ∉ [.cld, .sed, .plp, .rti] → c'.p.d = c.p.d
  v : m ∉ [.adc, .sbc, .bit, .clv, .plp, .rti] → c'.p.v = c.p.v
  b : m ≠ .brk → c'.p.b = c.p.b

theorem RegistersKept.of_eq {m : Mnemonic} {acc : Prop} {c c' : Cpu} (ha : c'.a = c.a) (hx : c'.x = c.x) (hy : c'.y = c.y)
    (hsp : c'.sp = c.sp) (hp : c'.p = c.p) : RegistersKept m acc c c' := by
  constructor <;> simp [ha, hx, hy, hsp, hp]

theorem RegistersKept.trans {m : Mnemonic} {acc : Prop} {c c' c'' : Cpu} (h : RegistersKept m acc c c')
    (h' : RegistersKept m acc c' c'') : RegistersKept m acc c c'' where
  a hm hacc := (h'.a hm hacc).trans (h.a hm hacc)
  x hm := (h'.x hm).trans (h.x hm)
  y hm := (h'.y hm).trans (h.y hm)
  sp hm := (h'.sp hm).trans (h.sp hm)
  carry hm := (h'.carry hm).trans (h.carry hm)
  zn hm := ⟨(h'.zn hm).1.trans (h.zn hm).1, (h'.zn hm).2.trans (h.zn hm).2⟩
  i hm := (h'.i hm).trans (h.i hm)
  d hm := (h'.d hm).trans (h.d hm)
  v hm := (h'.v hm).trans (h.v hm)
  b hm := (h'.b hm).trans (h.b hm)

variable {m : Mnemonic} {acc : Prop}

theorem LatchedReads.registersKept {s t : State} (h : LatchedReads s t) : RegistersKept m acc s.cpu t.cpu :=
  .of_eq h.a h.x h.y h.sp h.p

theorem cpuWrite_registersKept (a : Addr) (v : Byte) (s : State) : RegistersKept m acc s.cpu (cpuWrite a v s).cpu := by
  have hcpu := (cpuWrite_busOnly a v s).cpu
  exact .of_eq (by rw [hcpu]) (by rw [hcpu]) (by rw [hcpu]) (by rw [hcpu]) (by rw [hcpu])

theorem readEffect_registersKept {f : State → Byte → State} (h : readEffect m = some f) (t : State) (v : Byte) :
    RegistersKept m acc t.cpu (f t v).cpu := by
  cases m with
  | lda | ldx | ldy | adc | sbc | and | ora | eor | cmp | cpx | cpy | bit =>
    cases h
    constructor <;> simp [loadA, loadX, loadY, State.subFromA, State.addToA, andA, orA, eorA, compareA, compareX, compareY,
      State.compare, State.bitTest, State.setZN, Flags.setZN]
  | _ => cases h

theorem impliedEffect_registersKept {f : State → State} (h : impliedEffect m = some f) (t : State) :
    RegistersKept m acc t.cpu (f t).cpu := by
  cases m with
  | pha | php | pla | plp =>
    cases h
    constructor <;> simp [pushFlags, pullA, pullFlags, push_eq, pull_eq, State.setZN, Flags.setZN, Flags.unpack]
  | tax | tay | txa | tya | tsx | txs | inx | iny | dex | dey | clc | sec | cli | sei | clv | cld | sed | nop =>
    cases h
    constructor <;> simp [loadA, loadX, loadY, State.setZN, Flags.setZN]
  | _ => cases h

theorem operandWrite_registersKept (o : Operand) (v : Byte) (s : State) :
    RegistersKept m (o = .acc) s.cpu (operandWrite o v s).cpu := by
  rw [operandWrite_eq_ite]
  split
  · next hacc => constructor <;> simp [hacc]
  · exact cpuWrite_registersKept _ _ _

/-- The carry and the zero and negative flags of a read-modify-write are its own; INC and DEC hand the carry on. -/
theorem rmwEffect_keptByCarry {f : ShiftFn} (h : rmwEffect m = some f) (c : Cpu) (v : Byte) :
    RegistersKept m acc c { c with p := { c.p with c := (f v c.p.c).2 } } := by
  cases m with
  | asl | lsr | rol | ror | inc | dec => cases h; constructor <;> simp
  | _ => cases h

theorem rmwEffect_keptByZN {f : ShiftFn} (h : rmwEffect m = some f) (c : Cpu) (result : Byte) :
    RegistersKept m acc c { c with p := c.p.znOf result } := by
  cases m with
  | asl | lsr | rol | ror | inc | dec => constructor <;> simp [Flags.znOf]
  | _ => cases h

theorem rmwFinished_registersKept {f : ShiftFn} {i : Instr} (h : rmwEffect i.mnemonic = some f) (s : State) (v : Byte) :
    RegistersKept i.mnemonic (i.operand = .acc) s.cpu (rmwFinished i s (f v s.cpu.p.c)).cpu := by
  have hread := dataRead_latchedReads i.operand s
  have hcarry := rmwEffect_keptByCarry (acc := i.operand = .acc) h (dataRead i.operand s).2.cpu v
  rw [hread.p] at hcarry
  have hput : RegistersKept i.mnemonic (i.operand = .acc) _ _ := operandWrite_registersKept i.operand (f v s.cpu.p.c).1
    ((dataRead i.operand s).2.setP { s.cpu.p with c := (f v s.cpu.p.c).2 })
  exact (((hread.registersKept.trans hcarry).trans hput).trans (rmwEffect_keptByZN h _ _)).trans (.of_eq rfl rfl rfl rfl rfl)

theorem pushAddr_registersKept (h : m = .jsr) (a : Addr) (s : State) : RegistersKept m acc s.cpu (pushAddr a s).cpu := by
  constructor <;> simp [h, pushAddr_eq]

theorem pullAddr_registersKept (h : m = .rts) (s : State) : RegistersKept m acc s.cpu (pullAddr s).2.cpu := by
  constructor <;> simp [h, pullAddr_eq]

theorem takeInterrupt_registersKept (h : m = .brk) (ret : Addr) (brk : Bool) (s : State) :
    RegistersKept m acc s.cpu (takeInterrupt ret brk brkVector s).cpu := by
  rw [takeInterrupt_eq ret brk brkVector s (by decide) (by decide)]
  constructor <;> simp [h]

theorem returnFromInterrupt_registersKept (h : m = .rti) (s : State) :
    RegistersKept m acc s.cpu (returnFromInterrupt s).cpu := by
  rw [returnFromInterrupt_eq]
  constructor <;> simp [h, Flags.unpack]

/-- The registers and flags an instruction leaves, by its shape. -/
theorem ExecShape.registersKept {i : Instr} {s t : State} (h : ExecShape i s t) :
    RegistersKept i.mnemonic (i.operand = .acc) s.cpu t.cpu := by
  have haddress (o : Operand) : RegistersKept i.mnemonic (i.operand = .acc) s.cpu (address o s).cpu :=
    (address_latchedReads o s).registersKept
  have hread : RegistersKept i.mnemonic (i.operand = .acc) s.cpu (dataRead i.operand s).2.cpu :=
    (dataRead_latchedReads i.operand s).registersKept
  cases h with
  | read h => exact (hread.trans (readEffect_registersKept h _ _)).trans (.of_eq rfl rfl rfl rfl rfl)
  | store h => exact ((haddress _).trans (cpuWrite_registersKept _ _ _)).trans (.of_eq rfl rfl rfl rfl rfl)
  | modify h => exact rmwFinished_registersKept h s _
  | implied h hi => exact ((haddress _).trans (impliedEffect_registersKept h _)).trans (.of_eq rfl rfl rfl rfl rfl)
  | jump => exact (haddress _).trans (.of_eq rfl rfl rfl rfl rfl)
  | call h => exact ((haddress _).trans (pushAddr_registersKept h _ _)).trans (.of_eq rfl rfl rfl rfl rfl)
  | back h => exact ((haddress _).trans (pullAddr_registersKept h _)).trans (.of_eq rfl rfl rfl rfl rfl)
  | trap h => exact ((haddress _).trans (takeInterrupt_registersKept h _ _ _)).trans (.of_eq rfl rfl rfl rfl rfl)
  | resume h => exact ((haddress _).trans (returnFromInterrupt_registersKept h _)).trans (.of_eq rfl rfl rfl rfl rfl)

/-- Settles O10: what the shapes leave of the registers. -/
theorem registerFrame : Obligations.RegisterFrame := by
  intro i s t h
  have hkept := (exec_shape h).registersKept
  exact ⟨hkept.a, hkept.x, hkept.y, hkept.sp⟩

/-- Settles O11: what the shapes leave of the flags. -/
theorem flagFrame : Obligations.FlagFrame := by
  intro i s t h
  have hkept := (exec_shape h).registersKept
  exact ⟨hkept.carry, hkept.zn, hkept.i, hkept.d, hkept.v, hkept.b⟩

/-! Bytes of memory. -/

theorem RegistersOnly.byteAt {s t : State} (h : RegistersOnly s t) (m : Space) (a : Nat) : t.byteAt m a = s.byteAt m a := by
  rw [h.eq]
  cases m <;> rfl

/-- Without bus writes every byte of memory stays. -/
theorem Accesses.byteAt {s t : State} (h : Accesses false s t) (m : Space) (a : Nat) : t.byteAt m a = s.byteAt m a :=
  calc t.byteAt m a = (t.withRegisters s.cpu).byteAt m a := by cases m <;> rfl
    _ = s.byteAt m a := (h.reads rfl).byteAt m a

theorem byteAt_setRam_write (s : State) (i : Nat) (v : Byte) (m : Space) (k : Nat) :
    (s.setRam (s.ram.write i v)).byteAt m k = if m = .ram ∧ k = i then v else s.byteAt m k := by
  cases m <;> simp [State.byteAt]

theorem byteAt_setPrgRam_write (s : State) (i : Nat) (v : Byte) (m : Space) (k : Nat) :
    (s.setPrgRam (s.prgRam.write i v)).byteAt m k = if m = .prgRam ∧ k = i then v else s.byteAt m k := by
  cases m <;> simp [State.byteAt]

theorem byteAt_setOam_write (s : State) (i : Nat) (v : Byte) (m : Space) (k : Nat) :
    (s.setPpu { s.ppu with oam := s.ppu.oam.write i v }).byteAt m k = if m = .oam ∧ k = i then v else s.byteAt m k := by
  cases m <;> simp [State.byteAt]

/-- A write of a PPU register stores to OAM through OAMDATA, to the PPU's memory through PPUDATA, and nowhere else. -/
theorem byteAt_ppuRegWrite {r : BitVec 3} {s : State} {m : Space} {k : Nat}
    (h4 : r = 4 → ¬ (m = .oam ∧ k = s.ppu.oamAddr.toNat)) (h7 : r = 7 → ppuCell s.ppu.vAddr s m k = false) (v : Byte) :
    (s.ppuRegWrite r v).byteAt m k = s.byteAt m k := by
  unfold State.ppuRegWrite
  split
  · cases m <;> rfl
  · cases m <;> rfl
  · rfl
  · cases m <;> rfl
  · next hr =>
    have hcell := byteAt_setOam_write s s.ppu.oamAddr.toNat v m k
    rw [if_neg (h4 (BitVec.eq_of_toNat_eq hr))] at hcell
    rw [← hcell]
    cases m <;> rfl
  · unfold Ppu.writeScroll
    split <;> cases m <;> rfl
  · unfold Ppu.writeAddr
    split <;> cases m <;> rfl
  · next h0 h1 h2 h3 h4' h5 h6 =>
    simp only [imp_false] at h0 h1 h2 h3 h4' h5 h6
    have hr : r = 7 := BitVec.eq_of_toNat_eq (show r.toNat = 7 by omega)
    have hcell := byteAt_ppuWrite s.ppu.vAddr v s m k
    rw [h7 hr, if_neg Bool.false_ne_true] at hcell
    rw [← hcell]
    cases m <;> rfl

theorem byteAt_setDma (s : State) (b : Bool) (m : Space) (k : Nat) : (s.setDma b).byteAt m k = s.byteAt m k := by
  cases m <;> rfl

/-- The OAM DMA stores to the 256 bytes of OAM and nowhere else. -/
theorem byteAt_dmaUpTo (page : Byte) (s : State) (n : Nat) {m : Space} {k : Nat} (h : ¬ (m = .oam ∧ k < 256)) :
    (dmaUpTo page s n).byteAt m k = s.byteAt m k := by
  induction n with
  | zero => rfl
  | succ n ih =>
    have hread := (cpuRead_readsOnly (page ++ BitVec.ofNat 8 n) (dmaUpTo page s n)).byteAt m k
    rw [dmaUpTo_succ, ← ih, ← hread]
    refine (byteAt_setOam_write _ _ _ m k).trans (if_neg fun hcell => h ⟨hcell.1, ?_⟩)
    rw [hcell.2]
    exact BitVec.isLt _

/-- A bus write leaves every byte but the cells it is said to store to. -/
theorem byteAt_cpuWrite {ea : Addr} {s : State} {m : Space} {k : Nat} (h : writtenCell ea s m k = false) (v : Byte) :
    (cpuWrite ea v s).byteAt m k = s.byteAt m k := by
  unfold writtenCell at h
  unfold cpuWrite
  cases htarget : cpuTarget ea with
  | ram i => 
    rw [htarget] at h
    exact (byteAt_setRam_write s i v m k).trans (if_neg (by simpa using h))
  | ppuReg r => 
    rw [htarget] at h
    refine byteAt_ppuRegWrite (fun hr => ?_) (fun hr => ?_) v
    · simpa [hr] using h
    · simpa [hr] using h
  | oamDma => 
    rw [htarget] at h
    have hcell : ¬ (m = .oam ∧ k < 256) := by simpa using h
    exact (byteAt_setDma (dmaUpTo v s 256) true m k).trans (byteAt_dmaUpTo v s 256 hcell)
  | cartRam => 
    rw [htarget] at h
    dsimp only at h ⊢
    unfold State.cartRamWrite
    cases hindex : prgRamIndex s.cfg s.mapper ea with
    | none => rfl
    | some i =>
      rw [hindex] at h
      exact (byteAt_setPrgRam_write s i v m k).trans (if_neg (by simpa using h))
  | cartRom => 
    dsimp only
    unfold State.romWrite
    split <;> cases m <;> rfl
  | _ => cases m <;> rfl

theorem byteAt_push {s : State} {m : Space} {k : Nat} (h : stackCell 0 s m k = false) (v : Byte) :
    (push v s).byteAt m k = s.byteAt m k := by
  have hcell : ¬ (m = .ram ∧ k = 256 + s.cpu.sp.toNat) := by simpa [stackCell] using h
  refine Eq.trans ?_ ((byteAt_setRam_write s _ v m k).trans (if_neg hcell))
  rw [push_eq]
  cases m <;> rfl

theorem stackCell_congr {s t : State} (h : t.cpu.sp = s.cpu.sp) (j : Nat) (m : Space) (k : Nat) :
    stackCell j t m k = stackCell j s m k := by
  simp only [stackCell, h]

/-- A push moves the stack slots by one. -/
theorem stackCell_push (j : Nat) (v : Byte) (s : State) (m : Space) (k : Nat) :
    stackCell j (push v s) m k = stackCell (j + 1) s m k := by
  have hsp : s.cpu.sp - 1 - BitVec.ofNat 8 j = s.cpu.sp - BitVec.ofNat 8 (j + 1) := by
    rw [BitVec.ofNat_add]
    bv_omega
  simp only [stackCell, push_eq, hsp]

theorem byteAt_pushAddr {s : State} {m : Space} {k : Nat} (h0 : stackCell 0 s m k = false) (h1 : stackCell 1 s m k = false)
    (a : Addr) : (pushAddr a s).byteAt m k = s.byteAt m k :=
  (byteAt_push ((stackCell_push 0 _ s m k).trans h1) _).trans (byteAt_push h0 _)

theorem byteAt_takeInterrupt {s : State} {m : Space} {k : Nat} (h0 : stackCell 0 s m k = false)
    (h1 : stackCell 1 s m k = false) (h2 : stackCell 2 s m k = false) (ret : Addr) (brk : Bool) :
    (takeInterrupt ret brk brkVector s).byteAt m k = s.byteAt m k := by
  have h2' : stackCell 0 (pushAddr ret s) m k = false := by rw [pushAddr, stackCell_push, stackCell_push, h2]
  refine Eq.trans ?_ ((byteAt_push h2' (Flags.pack { s.cpu.p with b := brk } brk)).trans (byteAt_pushAddr h0 h1 ret))
  rw [takeInterrupt_eq _ _ _ _ (by decide) (by decide), push_eq, pushAddr_eq]
  cases m <;> rfl

theorem byteAt_finished (t : State) (i : Instr) (s : State) (m : Space) (k : Nat) :
    (t.finished i s).byteAt m k = t.byteAt m k := by
  cases m <;> rfl

theorem storedCell_of_store {i : Instr} {reg : Cpu → Byte} (h : storedRegister i.mnemonic = some reg) (s : State) (m : Space)
    (k : Nat) : storedCell i s m k = writtenCell (address i.operand s).cpu.ea (address i.operand s) m k := by
  cases hm : i.mnemonic with
  | sta | stx | sty => simp only [storedCell, hm]
  | _ => rw [hm] at h; cases h

theorem storedCell_of_modify {i : Instr} {f : ShiftFn} (h : rmwEffect i.mnemonic = some f) (s : State) (m : Space) (k : Nat) :
    storedCell i s m k = (i.operand != .acc &&
      writtenCell (dataRead i.operand s).2.cpu.ea (dataRead i.operand s).2 m k) := by
  rw [← operandRead_eq_dataRead]
  cases hm : i.mnemonic with
  | asl | lsr | rol | ror | inc | dec => simp only [storedCell, hm]
  | _ => rw [hm] at h; cases h

theorem byteAt_rmwFinished {i : Instr} {s : State} {m : Space} {k : Nat}
    (h : (i.operand != .acc && writtenCell (dataRead i.operand s).2.cpu.ea (dataRead i.operand s).2 m k) = false)
    (out : Byte × Bool) : (rmwFinished i s out).byteAt m k = s.byteAt m k := by
  have hread : (dataRead i.operand s).2.byteAt m k = s.byteAt m k := (dataRead_latchedReads i.operand s).byteAt m k
  have hput : (operandWrite i.operand out.1 ((dataRead i.operand s).2.setP { s.cpu.p with c := out.2 })).byteAt m k =
      (dataRead i.operand s).2.byteAt m k := by
    rw [operandWrite_eq_ite]
    split
    · cases m <;> rfl
    · next hacc =>
      have hcell : writtenCell (dataRead i.operand s).2.cpu.ea (dataRead i.operand s).2 m k = false := by simpa [hacc] using h
      refine (byteAt_cpuWrite (s := (dataRead i.operand s).2.setP { s.cpu.p with c := out.2 }) hcell out.1).trans ?_
      cases m <;> rfl
  refine Eq.trans ?_ (hput.trans hread)
  cases m <;> rfl

theorem byteAt_impliedEffect {i : Instr} {f : State → State} (h : impliedEffect i.mnemonic = some f) {s : State} {m : Space}
    {k : Nat} (hcell : storedCell i s m k = false) (t : State) (ht : t.cpu.sp = s.cpu.sp) : (f t).byteAt m k = t.byteAt m k := by
  cases hw : storesSomewhere i.mnemonic with
  | false => exact (impliedEffect_registersOnly h hw t).byteAt m k
  | true =>
    cases hm : i.mnemonic with
    | pha | php =>
      have hslot : stackCell 0 t m k = false := (stackCell_congr ht 0 m k).trans (by simpa only [storedCell, hm] using hcell)
      rw [hm] at h
      cases h
      exact byteAt_push hslot _
    | sta | stx | sty | asl | lsr | rol | ror | inc | dec | jsr | brk => rw [hm] at h; cases h
    | _ => rw [hm] at hw; cases hw

/-- Every byte stays but the cells the instruction is said to store to, by its shape. -/
theorem ExecShape.byteAt {i : Instr} {s t : State} (h : ExecShape i s t) {m : Space} {k : Nat}
    (hcell : storedCell i s m k = false) : t.byteAt m k = s.byteAt m k := by
  have haddress (o : Operand) : (address o s).byteAt m k = s.byteAt m k := (address_latchedReads o s).byteAt m k
  have hread : (dataRead i.operand s).2.byteAt m k = s.byteAt m k := (dataRead_latchedReads i.operand s).byteAt m k
  cases h with
  | read h => exact (byteAt_finished _ i s m k).trans (((readEffect_registersOnly h _ _).byteAt m k).trans hread)
  | store h =>
    rw [storedCell_of_store h] at hcell
    exact (byteAt_finished _ i s m k).trans ((byteAt_cpuWrite hcell _).trans (haddress _))
  | modify h =>
    rw [storedCell_of_modify h] at hcell
    exact byteAt_rmwFinished hcell _
  | implied h hi =>
    exact (byteAt_finished _ i s m k).trans ((byteAt_impliedEffect h hcell (address .imp s) rfl).trans (haddress .imp))
  | jump =>
    refine Eq.trans ?_ (haddress i.operand)
    cases m <;> rfl
  | call h ret pc =>
    obtain ⟨h0, h1⟩ : stackCell 0 s m k = false ∧ stackCell 1 s m k = false := by simpa [storedCell, h] using hcell
    have hslot (j : Nat) := stackCell_congr (address_latchedReads i.operand s).sp j m k
    refine Eq.trans ?_ ((byteAt_pushAddr ((hslot 0).trans h0) ((hslot 1).trans h1) ret).trans (haddress i.operand))
    cases m <;> rfl
  | back => exact ((pullAddr_registersOnly _).trans rfl).byteAt m k
  | trap h ret =>
    obtain ⟨⟨h0, h1⟩, h2⟩ : (stackCell 0 s m k = false ∧ stackCell 1 s m k = false) ∧ stackCell 2 s m k = false := by
      simpa [storedCell, h] using hcell
    refine Eq.trans ?_ ((byteAt_takeInterrupt (s := address .imp s) h0 h1 h2 ret true).trans (haddress .imp))
    cases m <;> rfl
  | resume => exact ((returnFromInterrupt_registersOnly _).trans rfl).byteAt m k

/-- Settles O13: the cells a bus write and the stack store to, shape by shape. -/
theorem storeFrame : Obligations.StoreFrame := by
  intro i s t m a h hcell
  exact (exec_shape h).byteAt hcell

end Sys2Proof.Machine
end

section
/-! SUPPORT. The proofs of the statements about the CPU tick, exceptions and the orchestrator's tick (55_system_tick.md;
60_exceptions.md): what each branch of a CPU tick and of a step answers, and what a CPU tick can change (`CpuTicked`). -/

namespace Sys2Proof.Machine

/-! Calls, interrupts and returns (44_control_flow.md R283, R284, R294, R295; 60_exceptions.md R484, R487). -/

/-- Settles O25: the interrupt through the vector at 0xFFFA with `PC` as return address. -/
theorem nmiEntryAgrees : Obligations.NmiEntry := by
  intro s hnmi
  rw [boundary, if_pos hnmi, nmiEntry, takeInterrupt_eq_stackIndex _ _ _ _ (by decide) (by decide)]
  rfl

theorem highByte_append_lowByte (a : Addr) : a.extractLsb' 8 8 ++ a.extractLsb' 0 8 = a := operandWord_bytes a

/-- Stack slots one and two apart are different cells. -/
theorem stackSlot_ne (sp : Byte) :
    256 + (sp - 1).toNat ≠ 256 + sp.toNat ∧ 256 + (sp - 1 - 1).toNat ≠ 256 + sp.toNat ∧
    256 + (sp - 1 - 1).toNat ≠ 256 + (sp - 1).toNat := by
  refine ⟨?_, ?_, ?_⟩ <;> bv_omega

/-- An address pushed is the address pulled from the same memory and stack pointer. -/
theorem pullAddr_pushAddr {a : Addr} {s t : State} (hram : t.ram = (pushAddr a s).ram)
    (hsp : t.cpu.sp = (pushAddr a s).cpu.sp) :
    pullAddr t = (a, { t with cpu := { t.cpu with sp := s.cpu.sp } }) := by
  obtain ⟨hne, -, -⟩ := stackSlot_ne s.cpu.sp
  rw [pushAddr_eq] at hram hsp
  simp only [pullAddr_eq, hram, hsp, sub_add_cancel, Memory.read_write, if_true, if_neg hne.symm, highByte_append_lowByte]

/-- What an interrupt pushed is what the return from it pulls from the same memory and stack pointer: PC, SP and the flags but B. -/
theorem returnFromInterrupt_takeInterrupt {ret : Addr} {brk : Bool} {vector : Addr} (h : 0x8000 ≤ vector.toNat)
    (h' : 0x8000 ≤ (vector + 1).toNat) {s t : State} (hram : t.ram = (takeInterrupt ret brk vector s).ram)
    (hsp : t.cpu.sp = (takeInterrupt ret brk vector s).cpu.sp) :
    returnFromInterrupt t = { t with cpu := { t.cpu with
      pc := ret, sp := s.cpu.sp, p := { s.cpu.p with b := t.cpu.p.b } } } := by
  obtain ⟨h10, h20, h21⟩ := stackSlot_ne s.cpu.sp
  rw [takeInterrupt_eq ret brk vector s h h'] at hram hsp
  simp only [returnFromInterrupt_eq, hram, hsp, sub_add_cancel, Memory.read_write, if_true, if_neg h10.symm, if_neg h20.symm,
    if_neg h21.symm, highByte_append_lowByte, Flags.unpack_pack]

theorem takeInterrupt_registers (ret : Addr) (brk : Bool) {vector : Addr} (h : 0x8000 ≤ vector.toNat)
    (h' : 0x8000 ≤ (vector + 1).toNat) (s : State) :
    (takeInterrupt ret brk vector s).cpu.p.b = brk ∧ (takeInterrupt ret brk vector s).cpu.a = s.cpu.a ∧
    (takeInterrupt ret brk vector s).cpu.x = s.cpu.x ∧ (takeInterrupt ret brk vector s).cpu.y = s.cpu.y := by
  rw [takeInterrupt_eq ret brk vector s h h']
  exact ⟨rfl, rfl, rfl, rfl⟩

/-- A byte pushed is the byte pulled from the same memory and stack pointer. -/
theorem pull_push {v : Byte} {s t : State} (hram : t.ram = (push v s).ram) (hsp : t.cpu.sp = (push v s).cpu.sp) :
    pull t = (v, { t with cpu := { t.cpu with sp := s.cpu.sp } }) := by
  rw [push_eq] at hram hsp
  simp only [pull_eq, hram, hsp, sub_add_cancel, Memory.read_write, if_true]

/-! A return run in any state whose memory and stack pointer are those a call, an interrupt or PHP left. -/

theorem exec_rts_after {a : Addr} {s t : State} (hram : t.ram = (pushAddr a s).ram) (hsp : t.cpu.sp = (pushAddr a s).cpu.sp) :
    ∃ u, exec .rts t = .next u ∧ u.cpu.pc = a + 1 ∧ u.cpu.sp = s.cpu.sp ∧ u.cpu.p = t.cpu.p := by
  have hexec : exec .rts t =
      .next (((pullAddr (address .imp t)).2.setPc ((pullAddr (address .imp t)).1 + 1)).setCountdown 6) := rfl
  rw [pullAddr_pushAddr (t := address .imp t) hram hsp] at hexec
  exact ⟨_, hexec, rfl, rfl, rfl⟩

theorem exec_rti_after {ret : Addr} {brk : Bool} {vector : Addr} (h : 0x8000 ≤ vector.toNat) (h' : 0x8000 ≤ (vector + 1).toNat)
    {s t : State} (hram : t.ram = (takeInterrupt ret brk vector s).ram) (hcpu : t.cpu.sp = (takeInterrupt ret brk vector s).cpu.sp)
    (hb : t.cpu.p.b = brk) :
    ∃ u, exec .rti t = .next u ∧ u.cpu.pc = ret ∧ u.cpu.sp = s.cpu.sp ∧ u.cpu.p = { s.cpu.p with b := brk } ∧
      u.cpu.a = t.cpu.a ∧ u.cpu.x = t.cpu.x ∧ u.cpu.y = t.cpu.y := by
  have hexec : exec .rti t = .next ((returnFromInterrupt (address .imp t)).setCountdown 6) := rfl
  rw [returnFromInterrupt_takeInterrupt (t := address .imp t) h h' hram hcpu] at hexec
  exact ⟨_, hexec, rfl, rfl, congrArg (fun b => { s.cpu.p with b := b }) hb, rfl, rfl, rfl⟩

theorem exec_plp_after {s t : State} (hram : t.ram = (pushFlags s).ram) (hsp : t.cpu.sp = (pushFlags s).cpu.sp)
    (hb : t.cpu.p.b = s.cpu.p.b) : ∃ u, exec .plp t = .next u ∧ u.cpu.sp = s.cpu.sp ∧ u.cpu.p = s.cpu.p := by
  obtain ⟨-, hexec⟩ := exec_implied (i := .plp) rfl t
  rw [pullFlags, pull_push (t := address .imp t) hram hsp] at hexec
  refine ⟨_, hexec, rfl, ?_⟩
  rw [State.finished, State.setP_cpu, Flags.unpack_pack]
  exact congrArg (fun b => { s.cpu.p with b := b }) hb

/-- Settles O24: each first instruction leaves the memory and the stack pointer that its return undoes. -/
theorem callAndTrapRoundTrips : Obligations.CallAndTrapRoundTrips := by
  intro s a
  refine ⟨?call, ?nmi, ?brk, ?flags⟩
  case call =>
    have hexec : exec (.jsrAbs a) s =
        .next (((pushAddr (s.cpu.pc + 2) (s.latch .abs a false)).setPc a).setCountdown 6) := rfl
    obtain ⟨u, hu, hpc, hsp, hp⟩ := exec_rts_after (a := s.cpu.pc + 2) (s := s.latch .abs a false)
      (t := ((pushAddr (s.cpu.pc + 2) (s.latch .abs a false)).setPc a).setCountdown 6) rfl rfl
    rw [pushAddr_eq] at hexec hu hp
    exact ⟨_, u, hexec, rfl, hu, hpc.trans (BitVec.add_assoc _ _ _), hsp, hp⟩
  case nmi =>
    obtain ⟨hb, ha, hx, hy⟩ := takeInterrupt_registers s.cpu.pc false (vector := nmiVector) (by decide) (by decide) s
    obtain ⟨u, hu, hpc, hsp, hp, hau, hxu, hyu⟩ := exec_rti_after (ret := s.cpu.pc) (vector := nmiVector) (by decide) (by decide)
      (s := s) (t := nmiEntry s) rfl rfl hb
    exact ⟨u, hu, hpc, hsp, hp, hau.trans ha, hxu.trans hx, hyu.trans hy⟩
  case brk =>
    obtain ⟨hb, -⟩ :=
      takeInterrupt_registers (s.cpu.pc + 2) true (vector := brkVector) (by decide) (by decide) (address .imp s)
    obtain ⟨u, hu, hpc, hsp, hp, -⟩ := exec_rti_after (ret := s.cpu.pc + 2) (vector := brkVector) (by decide) (by decide)
      (s := address .imp s) (t := (takeInterrupt (s.cpu.pc + 2) true brkVector (address .imp s)).setCountdown 7) rfl rfl hb
    exact ⟨_, u, rfl, hu, hpc, hsp, hp⟩
  case flags =>
    obtain ⟨-, hexec⟩ := exec_implied (i := .php) rfl s
    have hb : (pushFlags (address .imp s)).cpu.p.b = s.cpu.p.b := by rw [pushFlags, push_eq]; rfl
    obtain ⟨u, hu, hsp, hp⟩ := exec_plp_after (s := address .imp s) (t := (pushFlags (address .imp s)).finished .php s) rfl rfl hb
    exact ⟨_, u, hexec, hu, hsp, hp⟩

/-! What bus accesses and register changes keep (20_memory.md R81 to R92). -/

section Kept

variable {w : Bool} {s t : State}

theorem Accesses.bus_eq (h : Accesses w s t) : t.withRegisters s.cpu = s.afterBus t := h.bus

theorem Accesses.cfg (h : Accesses w s t) : t.cfg = s.cfg := by
  have hcfg := congrArg State.cfg h.bus_eq
  exact hcfg

theorem Accesses.fault (h : Accesses w s t) : t.cpu.fault = s.cpu.fault := by
  have hfault := congrArg (fun u : State => u.cpu.fault) h.bus_eq
  exact hfault

theorem Accesses.phase (h : Accesses w s t) : t.sys.phase = s.sys.phase := by
  have hphase := congrArg (fun u : State => u.sys.phase) h.bus_eq
  exact hphase

theorem Accesses.master (h : Accesses w s t) : t.sys.master = s.sys.master := by
  have hmaster := congrArg (fun u : State => u.sys.master) h.bus_eq
  exact hmaster

theorem Accesses.ctrlButtons (h : Accesses w s t) : t.sys.ctrlButtons = s.sys.ctrlButtons := by
  have hctrlButtons := congrArg (fun u : State => u.sys.ctrlButtons) h.bus_eq
  exact hctrlButtons

/-- No bus access raises the NMI request. -/
theorem Accesses.nmiPending (h : Accesses w s t) (hnmi : t.cpu.nmiPending = true) : s.cpu.nmiPending = true := by
  have hand : t.cpu.nmiPending = (s.cpu.nmiPending && t.cpu.nmiPending) :=
    congrArg (fun u : State => u.cpu.nmiPending) h.bus_eq
  rw [hnmi, Bool.and_true] at hand
  exact hand.symm

theorem Accesses.withStores (h : Accesses w s t) : Accesses true s t := by
  induction h with
  | registers h => exact .registers h
  | read a s => exact .read a s
  | write _ a v s => exact .write rfl a v s
  | trans _ _ ih ih' => exact ih.trans ih'

theorem fetch_accesses (s : State) : Accesses w s (fetch s).2 := by
  unfold fetch
  dsimp only
  split
  · exact (Accesses.read _ s).trans (.read _ _)
  · exact ((Accesses.read _ s).trans (.read _ _)).trans (.read _ _)
  · exact .read _ s

end Kept

/-! The CPU tick by its branches (55_system_tick.md R455 to R459; 60_exceptions.md R483). -/

theorem endCpuTick_of_not_faulted {s : State} (h : s.sys.phase ≠ .faulted) :
    endCpuTick s = s.setCountdown (s.cpu.countdown - 1) := if_neg h

theorem endCpuTick_of_faulted {s : State} (h : s.sys.phase = .faulted) : endCpuTick s = s := if_pos h

theorem cpuTick_idle {s : State} (h : s.cpu.countdown ≠ 0) : cpuTick s = .next (s.setCountdown (s.cpu.countdown - 1)) := if_neg h

theorem cpuTick_boundary {s t : State} (h : s.cpu.countdown = 0) (ht : boundary s = .next t) :
    cpuTick s = .next (endCpuTick t) := by
  simp only [cpuTick, h, if_true, ht]

theorem boundary_nmi {s : State} (h : s.cpu.nmiPending = true) : boundary s = .next (nmiEntry s) := if_pos h

theorem boundary_dma {s : State} (h : s.cpu.nmiPending = false) (h' : s.cpu.dmaPending = true) :
    boundary s = .next (dmaStallEntry s) := by
  simp [boundary, h, h']

theorem boundary_instruction {s : State} (h : s.cpu.nmiPending = false) (h' : s.cpu.dmaPending = false) :
    boundary s = runInstruction s := by
  simp [boundary, h, h']

theorem runInstruction_ok {s : State} {i : Instr} {rest : List Byte} (h : decode (fetch s).1 = .ok (i, rest)) :
    runInstruction s = exec i (fetch s).2 := by
  simp only [runInstruction, h]

theorem runInstruction_error {s : State} {e : DecodeError} (h : decode (fetch s).1 = .error e) :
    runInstruction s = .next (raiseIllegal ((fetch s).1.headD 0) (fetch s).2) := by
  simp only [runInstruction, h]

theorem exec_phase {i : Instr} {s t : State} (h : exec i s = .next t) : t.sys.phase = s.sys.phase := (exec_accesses h).phase

theorem fetch_phase (s : State) : (fetch s).2.sys.phase = s.sys.phase := (fetch_accesses (w := false) s).phase

theorem nmiEntry_phase (s : State) : (nmiEntry s).sys.phase = s.sys.phase :=
  (takeInterrupt_accesses rfl s.cpu.pc false nmiVector s).phase

theorem nmiEntry_dmaPending (s : State) : (nmiEntry s).cpu.dmaPending = s.cpu.dmaPending := by
  rw [nmiEntry, takeInterrupt_eq _ _ _ _ (by decide) (by decide)]
  rfl

/-- Settles O26: the branches of a boundary in their order; what each starts leaves the machine running. -/
theorem cpuTickPriority : Obligations.CpuTickPriority := by
  intro s
  refine ⟨cpuTick_idle, fun hcount hphase hnmi => ?nmi, fun hcount hphase hnmi hdma => ?dma,
    fun hcount hphase hnmi hdma i rest t hdecode hexec => ?instruction⟩
  case nmi =>
    have hrunning : (nmiEntry s).sys.phase ≠ .faulted := by simp [nmiEntry_phase, hphase]
    refine ⟨_, boundary_nmi hnmi, nmiEntry_dmaPending s, ?_⟩
    rw [cpuTick_boundary hcount (boundary_nmi hnmi), endCpuTick_of_not_faulted hrunning]
    rfl
  case dma =>
    have hrunning : (dmaStallEntry s).sys.phase ≠ .faulted := by simp [dmaStallEntry, hphase]
    rw [cpuTick_boundary hcount (boundary_dma hnmi hdma), endCpuTick_of_not_faulted hrunning]
    rfl
  case instruction =>
    have hrunning : t.sys.phase ≠ .faulted := by simp [exec_phase hexec, fetch_phase, hphase]
    have hboundary : boundary s = .next t := by rw [boundary_instruction hnmi hdma, runInstruction_ok hdecode, hexec]
    rw [cpuTick_boundary hcount hboundary, endCpuTick_of_not_faulted hrunning]
    rfl

/-- CPU ticks with the countdown running count it down and do nothing else. -/
theorem runCpuTicks_idle {n : Nat} {s : State} (h : s.cpu.countdown = n) : runCpuTicks n s = .next (s.setCountdown 0) := by
  induction n generalizing s with
  | zero =>
    show Host.Outcome.next s = .next (s.setCountdown 0)
    rw [← h]
    rfl
  | succ n ih =>
    have hrest := ih (s := s.setCountdown (s.cpu.countdown - 1)) (by simp [h])
    simp only [runCpuTicks, cpuTick_idle (show s.cpu.countdown ≠ 0 by omega), hrest]
    rfl

/-- Settles O27: the executing tick takes one off the cost, and idle ticks the rest. -/
theorem costOccupiesTicks : Obligations.CostOccupiesTicks := by
  intro n s t hcount hboundary hphase hcost hn
  obtain ⟨k, rfl⟩ : ∃ k, n = k + 1 := ⟨n - 1, by omega⟩
  have hidle := runCpuTicks_idle (n := k) (s := t.setCountdown (t.cpu.countdown - 1)) (by simp [hcost])
  simp only [runCpuTicks, cpuTick_boundary hcount hboundary, endCpuTick_of_not_faulted hphase, hidle]
  rfl

/-! The illegal opcode (55_system_tick.md R459, R472). -/

/-- An illegal opcode is fetched alone, and does not decode. -/
theorem fetch_illegal {s : State} (h : (cpuRead s.cpu.pc s).1 ∈ illegalBytes) :
    fetch s = ([(cpuRead s.cpu.pc s).1], (cpuRead s.cpu.pc s).2) ∧
    decode (fetch s).1 = .error (.illegalOpcode (cpuRead s.cpu.pc s).1) := by
  have hlookup := (mem_illegalBytes_iff _).mp h
  have hfetch : fetch s = ([(cpuRead s.cpu.pc s).1], (cpuRead s.cpu.pc s).2) := by
    simp only [fetch, opcodeLength, hlookup, Option.map_none]
  exact ⟨hfetch, by rw [hfetch]; exact (decode_illegal_iff _ []).mpr hlookup⟩

/-- Settles O28: the fetch of an illegal opcode is one read, and its record is all that is written. -/
theorem illegalOpcodeHalts : Obligations.IllegalOpcodeHalts := by
  refine ⟨fun s hcount hphase hnmi hdma hillegal => ?_, fun s hphase => ?_⟩
  · intro r
    obtain ⟨hfetch, hdecode⟩ := fetch_illegal hillegal
    have hpc : (cpuRead s.cpu.pc s).2.cpu.pc = s.cpu.pc := by rw [(cpuRead_readsOnly _ s).cpu]
    have hboundary := (boundary_instruction hnmi hdma).trans (runInstruction_error hdecode)
    rw [hfetch] at hboundary
    rw [cpuTick_boundary hcount hboundary, endCpuTick_of_faulted rfl]
    conv_lhs => rw [raiseIllegal, hpc]
    rfl
  · simp only [step, systemTick, hphase]

/-! The orchestrator's tick (55_system_tick.md R450 to R454, R471, R472). -/

/-- Settles O29: each phase's branch of the three operations. -/
theorem wrongPhaseRefused : Obligations.WrongPhaseRefused := by
  intro s launch
  refine ⟨fun h => ?_, fun h => ?_, fun h => ?_⟩ <;> simp only [step, systemTick, hostPowerUp, hostReset, h, and_self]

theorem masterPerPpu_eq (tv : TvSystem) : masterPerPpu tv = if tv = .ntsc then 4 else 5 := by cases tv <;> rfl

theorem masterPerCpu_eq (tv : TvSystem) : masterPerCpu tv = if tv = .ntsc then 12 else 16 := by cases tv <;> rfl

theorem step_runnable {s : State} (h : s.runnable) : step s = masterUnit s := by
  obtain ⟨hphase, hmapper⟩ := h
  simp only [step, systemTick, hphase, if_neg hmapper]

theorem masterUnit_due {s t : State} (h : cpuDue s = true) (ht : cpuTick (ppuPart s) = .next t) :
    masterUnit s = .next (countUnit (apuPart t)) := by
  simp only [masterUnit, h, if_true, ht]

theorem masterUnit_notDue {s : State} (h : ¬ cpuDue s = true) : masterUnit s = .next (countUnit (ppuPart s)) := by
  simp only [masterUnit, if_neg h]

/-- Settles O30: the PPU part, and the two cases of the CPU's turn. -/
theorem masterUnitOrder : Obligations.MasterUnitOrder := by
  intro s hrun perPpu perCpu s1 counted
  have hs1 : ppuPart s = s1 := by simp only [ppuPart, masterPerPpu_eq, s1, perPpu]
  have hdue : cpuDue s = true ↔ s.sys.master % perCpu = 0 := by
    rw [cpuDue, masterPerCpu_eq, beq_iff_eq]
  rw [step_runnable hrun, ← hs1]
  refine ⟨fun h => ?_, fun h t ht => ?_⟩
  · rw [masterUnit_notDue (by rwa [hdue])]
    rfl
  · rw [masterUnit_due (hdue.mpr h) ht]
    rfl

theorem one_le_mode_length (m : AddrMode) : 1 ≤ m.length := by cases m <;> decide

/-- The bytes fetched are the whole of what is decoded of them. -/
theorem decode_fetch_rest {s : State} {i : Instr} {rest : List Byte} (h : decode (fetch s).1 = .ok (i, rest)) : rest = [] := by
  have hrest {op : Byte} {tail : List Byte} (h : decode (op :: tail) = .ok (i, rest))
      (hlen : tail = [] ∨ opcodeLength op = some (tail.length + 1)) : rest = [] := by
    obtain ⟨r, hr, -, -, hcount⟩ := decode_cons_row h
    have hone := one_le_mode_length r.mode
    rw [opcodeLength, hr, Option.map_some, Option.some.injEq] at hlen
    have hzero : rest.length = 0 := by
      rcases hlen with rfl | hlen
      · rw [List.length_nil] at hcount
        omega
      · omega
    exact List.eq_nil_of_length_eq_zero hzero
  unfold fetch at h
  dsimp only at h
  split at h
  · next hlen => exact hrest h (.inr hlen)
  · next hlen => exact hrest h (.inr hlen)
  · exact hrest h (.inl rfl)

/-- Settles O31: the boundary of a unit that starts an instruction; the bytes by `decode_ok_encode`; the fetch by its length. -/
theorem stepRunsDecoded : Obligations.StepRunsDecoded := by
  refine ⟨fun s i rest t => ?_, fun s => ?_⟩
  · intro s1 hrun hdue hcount hnmi hdma hdecode hexec
    have hboundary : boundary s1 = .next t := by rw [boundary_instruction hnmi hdma, runInstruction_ok hdecode, hexec]
    obtain ⟨hwf, hbytes⟩ := decode_ok_encode hdecode
    rw [decode_fetch_rest hdecode, List.append_nil] at hbytes
    exact ⟨(step_runnable hrun).trans (masterUnit_due hdue (cpuTick_boundary hcount hboundary)), hwf, hbytes⟩
  · unfold fetch
    dsimp only
    split
    · next h =>
      rw [h]
      rfl
    · next h =>
      rw [h]
      rfl
    · next h2 h3 => split <;> simp_all

/-! What a CPU tick can change. -/

theorem regularCost_le (m : Mnemonic) (mode : AddrMode) : regularCost m mode ≤ 7 := by
  cases m with
  | lda | ldx | ldy | adc | sbc | and | ora | eor | cmp | cpx | cpy | bit | sta | stx | sty | asl | lsr | rol | ror | inc | dec
  | jmp => cases mode <;> decide
  | _ => simp [regularCost]

theorem expectedCost_le (i : Instr) (crossed : Bool) : expectedCost i crossed ≤ 8 := by
  have hregular := regularCost_le i.mnemonic i.operand.mode
  unfold expectedCost
  split <;> omega

/-- An instruction costs at most 8 cycles. -/
theorem ExecShape.countdown_le {i : Instr} {s t : State} (h : ExecShape i s t) : t.cpu.countdown ≤ 8 := by
  cases h with
  | read | store | modify | implied => exact expectedCost_le i _
  | jump _ _ hn => exact Nat.le_succ_of_le hn
  | call | back | resume => exact show 6 ≤ 8 by omega
  | trap => exact show 7 ≤ 8 by omega

/-- `t` comes of `s` by a CPU tick's means: bus accesses and register changes to a state `v`, and then the CPU's countdown and
requests, and the fault record and the phase of an illegal opcode. -/
structure CpuTicked (s t : State) : Prop where
  reached : ∃ v, Accesses true s v ∧ t = { v with cpu := t.cpu, sys := { v.sys with phase := t.sys.phase } }
  nmi : t.cpu.nmiPending = true → s.cpu.nmiPending = true
  countdown : s.cpu.countdown ≤ 512 → t.cpu.countdown ≤ 512
  phase : t.sys.phase = s.sys.phase ∧ t.cpu.fault = s.cpu.fault ∨ t.sys.phase = .faulted ∧ t.cpu.fault.isSome = true

/-- Bus accesses and register changes, a cost of at most 513, and the decrement. -/
theorem CpuTicked.of_accesses {s v t : State} (h : Accesses true s v) (hphase : s.sys.phase ≠ .faulted)
    (ht : t = { v with cpu := t.cpu }) (hnmi : t.cpu.nmiPending = true → v.cpu.nmiPending = true)
    (hfault : t.cpu.fault = v.cpu.fault) (hcost : t.cpu.countdown ≤ 513) : CpuTicked s (endCpuTick t) := by
  have htphase : t.sys.phase = s.sys.phase := by rw [ht]; exact h.phase
  rw [endCpuTick_of_not_faulted (by rwa [htphase])]
  refine ⟨⟨v, h, ?_⟩, fun hn => h.nmiPending (hnmi hn), fun _ => ?_, .inl ⟨htphase, hfault.trans h.fault⟩⟩
  · rw [ht]
    rfl
  · show t.cpu.countdown - 1 ≤ 512
    omega

theorem boundary_cpuTicked {s t : State} (h : boundary s = .next t) (hphase : s.sys.phase ≠ .faulted) : CpuTicked s (endCpuTick t) := by
  have hfetch : Accesses true s (fetch s).2 := fetch_accesses s
  cases hnmi : s.cpu.nmiPending with
  | true =>
    rw [boundary_nmi hnmi] at h
    cases h
    exact .of_accesses (takeInterrupt_accesses rfl s.cpu.pc false nmiVector s) hphase rfl (fun h => nomatch h) rfl
      (show 7 ≤ 513 by omega)
  | false =>
    cases hdma : s.cpu.dmaPending with
    | true =>
      rw [boundary_dma hnmi hdma] at h
      cases h
      exact .of_accesses (v := s) (.registers rfl) hphase rfl id rfl (show 513 ≤ 513 by omega)
    | false =>
      rw [boundary_instruction hnmi hdma] at h
      cases hdecode : decode (fetch s).1 with
      | ok result =>
        rw [runInstruction_ok (i := result.1) (rest := result.2) hdecode] at h
        have hcost := (exec_shape h).countdown_le
        exact .of_accesses (hfetch.trans (exec_accesses h).withStores) hphase rfl id rfl (by omega)
      | error =>
        rw [runInstruction_error hdecode] at h
        cases h
        rw [endCpuTick_of_faulted rfl]
        have hkept : (fetch s).2.cpu.countdown = s.cpu.countdown := by rw [(fetch_readsOnly s).cpu]
        exact ⟨⟨(fetch s).2, hfetch, rfl⟩, hfetch.nmiPending, fun hle => hkept.trans_le hle, .inr ⟨rfl, rfl⟩⟩

theorem cpuTick_cpuTicked {s t : State} (h : cpuTick s = .next t) (hphase : s.sys.phase ≠ .faulted) : CpuTicked s t := by
  by_cases hcount : s.cpu.countdown = 0
  · cases hboundary : boundary s with
    | next u =>
      rw [cpuTick_boundary hcount hboundary] at h
      cases h
      exact boundary_cpuTicked hboundary hphase
    | fault => simp [cpuTick, hcount, hboundary] at h
    | refused => simp [cpuTick, hcount, hboundary] at h
  · rw [cpuTick_idle hcount] at h
    cases h
    refine ⟨⟨s, .registers rfl, rfl⟩, id, fun hle => ?_, .inl ⟨rfl, rfl⟩⟩
    show s.cpu.countdown - 1 ≤ 512
    omega

theorem boundary_next (s : State) : ∃ t, boundary s = .next t := by
  cases hnmi : s.cpu.nmiPending with
  | true => exact ⟨_, boundary_nmi hnmi⟩
  | false =>
    cases hdma : s.cpu.dmaPending with
    | true => exact ⟨_, boundary_dma hnmi hdma⟩
    | false =>
      rw [boundary_instruction hnmi hdma]
      cases hdecode : decode (fetch s).1 with
      | ok result =>
        rw [runInstruction_ok (i := result.1) (rest := result.2) hdecode]
        exact exec_next _ _
      | error => exact ⟨_, runInstruction_error hdecode⟩

/-- A CPU tick always answers a next state. -/
theorem cpuTick_next (s : State) : ∃ t, cpuTick s = .next t := by
  by_cases hcount : s.cpu.countdown = 0
  · obtain ⟨t, ht⟩ := boundary_next s
    exact ⟨_, cpuTick_boundary hcount ht⟩
  · exact ⟨_, cpuTick_idle hcount⟩

/-! What a step can do. -/

/-- A PPU tick changes the PPU and the CPU's NMI request, at most. -/
theorem State.ppuTick_eq (s : State) : s.ppuTick = { s with ppu := s.ppuTick.ppu, cpu := s.ppuTick.cpu } := by
  have hdrawn : s.drawn = { s with ppu := s.drawn.ppu, cpu := s.drawn.cpu } := by rw [s.drawn_frame]
  exact congrArg (State.setPpu · s.ppuTick.ppu) hdrawn

theorem ppuPart_eq (s : State) : ppuPart s = { s with ppu := (ppuPart s).ppu, cpu := (ppuPart s).cpu } := by
  unfold ppuPart
  split
  · exact s.ppuTick_eq
  · rfl

theorem ppuPart_cfg (s : State) : (ppuPart s).cfg = s.cfg := by rw [ppuPart_eq]

theorem ppuPart_sys (s : State) : (ppuPart s).sys = s.sys := by rw [ppuPart_eq]

theorem apuPart_eq (s : State) : apuPart s = s.setApu (apuPart s).apu := by
  unfold apuPart
  split <;> rfl

/-- Only a running machine on a supported mapper steps. -/
theorem runnable_of_step {s t : State} (h : step s = .next t) : s.runnable := by
  unfold step systemTick at h
  cases hphase : s.sys.phase with
  | running =>
    rw [hphase] at h
    dsimp only at h
    split at h
    · cases h
    · next hmapper => exact ⟨hphase, hmapper⟩
  | _ => rw [hphase] at h; cases h

/-- A step is the PPU part; where the CPU is due, a CPU tick and the APU part; and the count. -/
theorem step_cases {s t : State} (h : step s = .next t) :
    ∃ u, t = countUnit u ∧ (u = ppuPart s ∨ ∃ v, CpuTicked (ppuPart s) v ∧ u = apuPart v) := by
  have hrun := runnable_of_step h
  rw [step_runnable hrun] at h
  by_cases hdue : cpuDue s = true
  · obtain ⟨v, hv⟩ := cpuTick_next (ppuPart s)
    rw [masterUnit_due hdue hv] at h
    cases h
    have hphase : (ppuPart s).sys.phase ≠ .faulted := by simp [ppuPart_sys, hrun.1]
    exact ⟨_, rfl, .inr ⟨v, cpuTick_cpuTicked hv hphase, rfl⟩⟩
  · rw [masterUnit_notDue hdue] at h
    cases h
    exact ⟨_, rfl, .inl rfl⟩

theorem CpuTicked.cfg {s t : State} (h : CpuTicked s t) : t.cfg = s.cfg := by
  obtain ⟨v, hv, ht⟩ := h.reached
  rw [ht]
  exact hv.cfg

/-- A CPU tick changes no more of the system block than the phase and the controller's shift register and strobe. -/
theorem CpuTicked.sys {s t : State} (h : CpuTicked s t) :
    t.sys.master = s.sys.master ∧ t.sys.ctrlButtons = s.sys.ctrlButtons := by
  obtain ⟨v, hv, ht⟩ := h.reached
  rw [ht]
  exact ⟨hv.master, hv.ctrlButtons⟩

/-- The PPU part raises the NMI request at (241, 1) alone. -/
theorem ppuPart_nmiPending {s : State} (h : s.cpu.nmiPending = false) (h' : (ppuPart s).cpu.nmiPending = true) :
    s.ppu.scanline = 241 ∧ s.ppu.dot = 1 ∧ s.ppu.suppressVbl = false ∧ s.ppu.ctrl.getLsbD 7 = true ∧
      s.sys.master % masterPerPpu s.cfg.header.tv = 0 := by
  unfold ppuPart at h'
  split at h'
  · next hmaster =>
    by_cases hvbl : s.ppu.scanline = 241 ∧ s.ppu.dot = 1
    · obtain ⟨hline, hdot⟩ := hvbl
      rw [(ppuTick_at_vblankDot hline hdot).2.2] at h'
      simp only [h, Bool.false_or, Bool.and_eq_true, Bool.not_eq_true'] at h'
      exact ⟨hline, hdot, h'.1, h'.2, hmaster⟩
    · rw [(ppuTick_elsewhere hvbl).1, h] at h'
      cases h'
  · rw [h] at h'
    cases h'

/-- Settles O32: of the parts of a step the CPU tick raises no request, the APU part and the count touch none, and the PPU part raises
it at (241, 1). -/
theorem nmiOnlyAtVblank : Obligations.NmiOnlyAtVblank := by
  intro s t h hbefore hafter
  obtain ⟨u, rfl, hu⟩ := step_cases h
  refine ppuPart_nmiPending hbefore ?_
  obtain rfl | ⟨v, hv, rfl⟩ := hu
  · exact hafter
  · rw [apuPart_eq] at hafter
    exact hv.nmi hafter

/-- Settles O33: no part of a step changes the configuration or the buttons. -/
theorem imageNeverChanges : Obligations.ImageNeverChanges := by
  refine ⟨fun s t h => ?_, fun a v s => (cpuWrite_busOnly a v s).cfg⟩
  obtain ⟨u, rfl, rfl | ⟨v, hv, rfl⟩⟩ := step_cases h
  · rw [countUnit, State.setSys_cfg, State.setSys_sys, ppuPart_sys]
    exact ⟨ppuPart_cfg s, rfl⟩
  · rw [apuPart_eq]
    exact ⟨hv.cfg.trans (ppuPart_cfg s), hv.sys.2.trans (congrArg Sys.ctrlButtons (ppuPart_sys s))⟩

/-- Settles O36: every part of a step answers; the phase after is that of the CPU tick. -/
theorem runningMachineSteps : Obligations.RunningMachineSteps := by
  intro s hrun
  have hstep : ∃ t, step s = .next t := by
    rw [step_runnable hrun]
    by_cases hdue : cpuDue s = true
    · obtain ⟨v, hv⟩ := cpuTick_next (ppuPart s)
      exact ⟨_, masterUnit_due hdue hv⟩
    · exact ⟨_, masterUnit_notDue hdue⟩
  obtain ⟨t, ht⟩ := hstep
  refine ⟨t, ht, ?_⟩
  obtain ⟨u, rfl, rfl | ⟨v, hv, rfl⟩⟩ := step_cases ht
  · rw [countUnit, State.setSys_sys, ppuPart_sys]
    exact ⟨rfl, .inl hrun.1⟩
  · rw [countUnit, State.setSys_sys, State.setSys_cpu, apuPart_eq]
    refine ⟨congrArg (· + 1) (hv.sys.1.trans (congrArg Sys.master (ppuPart_sys s))), ?_⟩
    refine hv.phase.imp (fun hkept => ?_) id
    exact (hkept.1.trans (congrArg Sys.phase (ppuPart_sys s))).trans hrun.1

end Sys2Proof.Machine
end

section
/-! SUPPORT. The proofs of the statements about power-up, reset and loading (70_reset_and_hazards.md, 21_mappers.md), the rows of
the CPU address map (20_memory.md R81) and the mappers without a serial register. -/

namespace Sys2Proof.Machine

/-! The reset state (70_reset_and_hazards.md R530). -/

theorem reset_evaluationOk : State.reset.ppu.evaluationOk := by
  simp [Ppu.evaluationOk, State.reset, Ppu.powerUp]

/-- Settles O35: every memory of the reset state but secondary OAM is empty, and every counter stands at zero. -/
theorem resetMeetsInvariant : Obligations.ResetMeetsInvariant where
  left := {
    ramFits := rfl
    prgRamFits := rfl
    chrRamFits := rfl
    nametableFits := rfl
    paletteFits := rfl
    oamFits := rfl
    secondaryFits := by decide
    lineSpritesFit := rfl
    frameFits := rfl
    doneFrameFits := rfl
    dotLegal := by decide
    lineLegal := Nat.zero_le _
    spriteIndex := by decide
    evaluation := reset_evaluationOk
    lineCount := by decide
    vblankWindow := by decide
    suppression := by decide
    sequencer := by decide
    pulse1 := .inl rfl
    pulse2 := .inl rfl
    serialCount := by decide
    mirroring := rfl
    countdown := by decide
    faulted := by decide }
  right := by unfold State.runnable; decide

/-! Power-up and reset (70_reset_and_hazards.md R520 to R526). -/

/-- Entering at the reset vector, whole: the vector stands in ROM space, so reading it has no side effect. -/
theorem enterReset_eq (s : State) :
    enterReset s = { s with
      cpu := { s.cpu with pc := wordOf (s.prgRead 0xFFFD) (s.prgRead 0xFFFC), countdown := 7 },
      sys := { s.sys with phase := .running } } := by
  rw [enterReset, resetVector, cpuReadWord_rom 0xFFFC s (by decide) (by decide), append_byte_eq_wordOf]
  rfl

theorem cpuRead_resetVector (s : State) :
    wordOf (cpuRead 0xFFFD s).1 (cpuRead 0xFFFC s).1 = wordOf (s.prgRead 0xFFFD) (s.prgRead 0xFFFC) := by
  rw [cpuRead_rom 0xFFFD s (by decide), cpuRead_rom 0xFFFC s (by decide)]

theorem powerUp_sample : Apu.powerUp.sample = 0 := by decide

theorem Header.initialMirroring_of_fixed {h : Header} (hm : h.mapper = .nrom ∨ h.mapper = .uxrom) :
    h.initialMirroring = h.mirroring := by
  rcases hm with hm | hm <;> simp only [Header.initialMirroring, hm]

theorem Header.initialMirroring_of_switched {h : Header} (hm : h.mapper = .mmc1 ∨ h.mapper = .axrom) :
    h.initialMirroring = .oneScreenLow := by
  rcases hm with hm | hm <;> simp only [Header.initialMirroring, hm]

/-- Settles O59: both operations set named fields and then enter at the reset vector. -/
theorem powerUpAndReset : Obligations.PowerUpAndReset := by
  intro launch s m t u silent cleared
  have ht : t = _ := enterReset_eq _
  have hu : u = _ := enterReset_eq _
  have hsp : s.cpu.sp - 3 = BitVec.ofNat 8 (s.cpu.sp.toNat + 253) := by
    rw [byte_ofNat_toNat_add]
    bv_omega
  refine ⟨?_, ?_, ?_, rfl, rfl, rfl, rfl, rfl, rfl, rfl, rfl, Header.initialMirroring_of_fixed,
    Header.initialMirroring_of_switched, ?_⟩
  · rw [ht, cpuRead_resetVector]
    rfl
  · rw [ht]
    rfl
  · rw [ht]
    exact powerUp_sample
  · rw [hu, cpuRead_resetVector, ← hsp]
    rfl

/-! The cartridge header (21_mappers.md R120 to R125). -/

theorem mapperNumber_eq (b6 b7 : Byte) : mapperNumber b6 b7 = b7.toNat / 16 * 16 + b6.toNat / 16 := by
  have hhigh : (b7 &&& 0xF0#8).toNat = b7.toNat / 16 * 16 := by
    rw [toNat_and_fieldMask b7 0xF0#8 4 4 rfl]
    have := b7.isLt
    omega
  have hlow : (b6 >>> 4).toNat = b6.toNat / 16 := by
    rw [BitVec.toNat_ushiftRight, Nat.shiftRight_eq_div_pow]
  have := b6.isLt
  rw [mapperNumber, BitVec.toNat_or, hhigh, hlow, or_eq_add_of_dvd 4 (by omega) (by omega)]

theorem mapperOfNumber_eq (m : Nat) :
    mapperOfNumber m = if m = 0 then .nrom else if m = 1 then .mmc1 else if m = 2 then .uxrom else if m = 71 then .uxrom
      else if m = 7 then .axrom else .unsupported := by
  rw [mapperOfNumber]
  by_cases h2 : m = 2
  · simp only [h2, true_or, if_true]
  · simp only [h2, false_or, if_false]

/-- A parsed header stands behind the magic bytes. -/
theorem take_four_of_parseHeader {image : List Byte} {r : Header × Nat} (h : parseHeader image = some r) :
    image.take 4 = magic := by
  unfold parseHeader at h
  split at h
  next =>
    split at h
    next hmagic => simpa using hmagic
    next => cases h
  next => cases h

/-- Settles O60: the header's bits as whole numbers; the reset state by evaluation of the power-up. -/
theorem headerAndResetImage : Obligations.HeaderAndResetImage := by
  refine ⟨?_, ?_, rfl, ?_⟩
  · intro b4 b5 b6 b7 b8 b9 b10 b11 b12 b13 b14 b15 rest m
    have hparse : parseHeader ([0x4E, 0x45, 0x53, 0x1A, b4, b5, b6, b7, b8, b9, b10, b11, b12, b13, b14, b15] ++ rest) =
        some (headerOfBytes b4 b5 b6 b7 b8 b9 [b10, b11, b12, b13, b14, b15], mapperNumber b6 b7) := rfl
    have hnes2 : (b7.extractLsb' 2 2 == 2) = decide (b7.toNat / 4 % 4 = 2) := by
      rw [Bool.eq_iff_iff, beq_iff_eq, decide_eq_true_iff, ← BitVec.toNat_inj, toNat_bitSlice]
      rfl
    rw [hparse, headerOfBytes, mapperNumber_eq, mapperOfNumber_eq, headerMirroring, hnes2]
    simp only [getLsbD_eq_decide, decide_eq_true_eq, Nat.reducePow, Nat.div_one]
    rfl
  · intro image hmagic
    by_contra hsome
    obtain ⟨r, hr⟩ := Option.ne_none_iff_exists'.1 hsome
    exact hmagic (take_four_of_parseHeader hr)
  · rw [powerUpState, enterReset_eq]
    rfl

/-! The rows of the CPU address map outside RAM and ROM (20_memory.md R81, R85 to R89). -/

section Rows

variable {a : Addr}

theorem cpuTarget_ppuReg (h : 0x2000 ≤ a.toNat) (h' : a.toNat < 0x4000) : cpuTarget a = .ppuReg (a.extractLsb' 0 3) := by
  simp only [cpuTarget, if_neg (show ¬ a.toNat < 0x2000 by omega), if_pos h']

theorem cpuTarget_pulse1 (h : 0x4000 ≤ a.toNat) (h' : a.toNat < 0x4004) :
    cpuTarget a = .pulse .p1 (a.extractLsb' 0 2) := by
  simp only [cpuTarget, if_neg (show ¬ a.toNat < 0x2000 by omega), if_neg (show ¬ a.toNat < 0x4000 by omega), if_pos h']

theorem cpuTarget_pulse2 (h : 0x4004 ≤ a.toNat) (h' : a.toNat < 0x4008) :
    cpuTarget a = .pulse .p2 (a.extractLsb' 0 2) := by
  simp only [cpuTarget, if_neg (show ¬ a.toNat < 0x2000 by omega), if_neg (show ¬ a.toNat < 0x4000 by omega),
    if_neg (show ¬ a.toNat < 0x4004 by omega), if_pos h']

theorem cpuTarget_unmapped
    (h : 0x4008 ≤ a.toNat ∧ a.toNat < 0x4014 ∨ 0x4018 ≤ a.toNat ∧ a.toNat < 0x6000) : cpuTarget a = .unmapped := by
  simp only [cpuTarget, if_neg (show ¬ a.toNat < 0x2000 by omega), if_neg (show ¬ a.toNat < 0x4000 by omega),
    if_neg (show ¬ a.toNat < 0x4004 by omega), if_neg (show ¬ a.toNat < 0x4008 by omega),
    if_neg (show ¬ a.toNat = 0x4014 by omega), if_neg (show ¬ a.toNat = 0x4015 by omega),
    if_neg (show ¬ a.toNat = 0x4016 by omega), if_neg (show ¬ a.toNat = 0x4017 by omega),
    if_pos (show a.toNat < 0x6000 by omega)]

theorem cpuTarget_cartRam (h : 0x6000 ≤ a.toNat) (h' : a.toNat < 0x8000) : cpuTarget a = .cartRam := by
  simp only [cpuTarget, if_neg (show ¬ a.toNat < 0x2000 by omega), if_neg (show ¬ a.toNat < 0x4000 by omega),
    if_neg (show ¬ a.toNat < 0x4004 by omega), if_neg (show ¬ a.toNat < 0x4008 by omega),
    if_neg (show ¬ a.toNat = 0x4014 by omega), if_neg (show ¬ a.toNat = 0x4015 by omega),
    if_neg (show ¬ a.toNat = 0x4016 by omega), if_neg (show ¬ a.toNat = 0x4017 by omega),
    if_neg (show ¬ a.toNat < 0x6000 by omega), if_pos h']

end Rows

theorem toNat_lowBits {w : Nat} (a : BitVec w) (len : Nat) : (a.extractLsb' 0 len).toNat = a.toNat % 2 ^ len := by
  rw [toNat_bitSlice, Nat.pow_zero, Nat.div_one]

theorem eq_of_toNat_eq_ofNat {a : Addr} {n : Nat} (hn : n < 65536) (h : a.toNat = n) : a = BitVec.ofNat 16 n :=
  BitVec.eq_of_toNat_eq (by rw [h, BitVec.toNat_ofNat, Nat.mod_eq_of_lt hn])

/-! The PRG-RAM window by mapper (21_mappers.md R130, R140, R156, R161). -/

theorem prgRamIndex_nrom {c : CartConfig} (hm : c.header.mapper = .nrom) (m : Mapper) (a : Addr) :
    prgRamIndex c m a = if c.nromHasPrgRam = true then some (a.toNat % 8192) else none := by
  simp only [prgRamIndex, hm, toNat_and_lowMask a 0x1FFF 13 rfl, Nat.reducePow]

theorem prgRamIndex_mmc1 {c : CartConfig} (hm : c.header.mapper = .mmc1) (m : Mapper) (a : Addr) :
    prgRamIndex c m a =
      some (8192 * (m.mmc1Chr0.toNat / 4 % 4 % max 1 c.header.prgRamUnits) + a.toNat % 8192) := by
  have hbanks : c.prgRamSize / 8192 = max 1 c.header.prgRamUnits := by
    rw [CartConfig.prgRamSize, Nat.mul_div_cancel_left _ (by decide)]
  simp only [prgRamIndex, hm, toNat_and_lowMask a 0x1FFF 13 rfl, Nat.reducePow, toNat_bitSlice, hbanks, Nat.mul_comm 8192]

theorem prgRamIndex_none {c : CartConfig} (hm : c.header.mapper = .uxrom ∨ c.header.mapper = .axrom) (m : Mapper) (a : Addr) :
    prgRamIndex c m a = none := by
  rcases hm with hm | hm <;> simp only [prgRamIndex, hm]

section CartRam

variable {a : Addr} (h : 0x6000 ≤ a.toNat) (h' : a.toNat < 0x8000) (v : Byte) (s : State)
include h h'

theorem cartRam_access_some {i : Nat} (hi : prgRamIndex s.cfg s.mapper a = some i) :
    cpuRead a s = (s.prgRam.read i, s) ∧ cpuWrite a v s = { s with prgRam := s.prgRam.write i v } := by
  simp only [cpuRead, cpuWrite, cpuTarget_cartRam h h', State.cartRamRead, State.cartRamWrite, hi, State.setPrgRam, and_self]

theorem cartRam_access_none (hi : prgRamIndex s.cfg s.mapper a = none) :
    cpuRead a s = s.draw ∧ cpuWrite a v s = s := by
  simp only [cpuRead, cpuWrite, cpuTarget_cartRam h h', State.cartRamRead, State.cartRamWrite, hi, and_self]

end CartRam

/-- Settles O38: each row by the target its range of addresses selects; the PRG-RAM window by the mapper's index. -/
theorem addressMapRows : Obligations.AddressMapRows := by
  intro a v s n openBus bank
  refine ⟨fun h h' => ?_, fun h h' => ?_, fun h h' => ?_, fun h h' => ?_, fun h => ?_, fun h => ?_, fun h => ?_,
    fun h h' => ?_, fun h h' => ⟨fun hm hram => ?_, fun hm hram => ?_, fun hm => ?_, fun hm => ?_⟩⟩
  · refine ⟨a.extractLsb' 0 3, toNat_lowBits a _, ?_⟩
    simp only [cpuRead, cpuWrite, cpuTarget_ppuReg h h', and_self]
  · refine ⟨a.extractLsb' 0 2, toNat_lowBits a _, ?_⟩
    simp only [cpuRead, cpuWrite, cpuTarget_pulse1 h h']
    exact ⟨rfl, rfl⟩
  · refine ⟨a.extractLsb' 0 2, toNat_lowBits a _, ?_⟩
    simp only [cpuRead, cpuWrite, cpuTarget_pulse2 h h']
    exact ⟨rfl, rfl⟩
  · simp only [cpuRead, cpuWrite, cpuTarget_unmapped (.inl ⟨h, h'⟩)]
    exact ⟨rfl, trivial⟩
  · rw [eq_of_toNat_eq_ofNat (by decide) h]
    rfl
  · rw [eq_of_toNat_eq_ofNat (by decide) h]
    exact ⟨rfl, rfl⟩
  · rw [eq_of_toNat_eq_ofNat (by decide) h]
    exact ⟨rfl, rfl⟩
  · simp only [cpuRead, cpuWrite, cpuTarget_unmapped (.inr ⟨h, h'⟩)]
    exact ⟨rfl, trivial⟩
  · exact cartRam_access_some h h' v s (by rw [prgRamIndex_nrom hm, if_pos hram])
  · exact cartRam_access_none h h' v s (by rw [prgRamIndex_nrom hm, if_neg (by simp [hram])])
  · exact cartRam_access_some h h' v s (prgRamIndex_mmc1 hm _ _)
  · exact cartRam_access_none h h' v s (prgRamIndex_none hm _ _)

/-! Writes to ROM space on the mappers without a serial register (21_mappers.md R131, R157, R162, R164). -/

theorem mirroring_of_fixed {s : State} (hm : s.cfg.header.mapper = .nrom ∨ s.cfg.header.mapper = .uxrom) :
    s.mirroring = s.cfg.header.mirroring := by
  rcases hm with hm | hm <;> simp only [State.mirroring, hm]

theorem Mapper.axromWrite_eq (m : Mapper) (v : Byte) :
    m.axromWrite v = { m with
      axromBank := BitVec.ofNat 3 (v.toNat % 8),
      mirroring := if v.toNat / 16 % 2 = 1 then .oneScreenHigh else .oneScreenLow } := by
  rw [Mapper.axromWrite, bitSlice_eq_ofNat_mod, getLsbD_eq_decide]
  simp only [decide_eq_true_eq, Nat.reducePow, Nat.div_one]

/-- Settles O44: the write of ROM space by mapper, its bits in whole numbers. -/
theorem simpleMapperWrites : Obligations.SimpleMapperWrites := by
  intro s a v ha
  have hwrite : cpuWrite a v s = s.romWrite a v := by simp only [cpuWrite, cpuTarget_rom a ha]
  refine ⟨fun hm => ⟨?_, mirroring_of_fixed (.inl hm)⟩, fun hm => ⟨?_, mirroring_of_fixed (.inr hm)⟩, fun hm => ?_⟩
  · simp only [hwrite, State.romWrite, hm]
  · simp only [hwrite, State.romWrite, hm, Mapper.uxromWrite, bitSlice_eq_ofNat_mod, Nat.reducePow, Nat.pow_zero, Nat.div_one]
    rfl
  · have haxrom : cpuWrite a v s = s.setMapper (s.mapper.axromWrite v) := by simp only [hwrite, State.romWrite, hm]
    rw [haxrom, Mapper.axromWrite_eq]
    exact ⟨rfl, by simp only [State.mirroring, State.setMapper_cfg, State.setMapper_mapper, hm]⟩

end Sys2Proof.Machine
end

section
/-! SUPPORT. The proof of the statement about the sprite-overflow flag (50_ppu.md R370, R371): where the flag comes from after a tick,
and the two cases of the overflow scan. -/

namespace Sys2Proof.Machine

/-! The overflow scan (R370, R371). -/

theorem Ppu.evAct_of_overflowScan {p : Ppu} (h : p.evPhase = .ovfScan) : p.evAct = p.evOverflow := by simp only [Ppu.evAct, h]

theorem Ppu.evAct_overflowScan_inRange {p : Ppu} (hphase : p.evPhase = .ovfScan) (h : p.inRange p.evLatch = true) :
    p.evAct = { p with overflow := true, evPhase := .done } :=
  (Ppu.evAct_of_overflowScan hphase).trans (if_pos h)

theorem Ppu.evAct_overflowScan_outOfRange {p : Ppu} (hphase : p.evPhase = .ovfScan) (h : ¬ p.inRange p.evLatch = true) :
    p.evAct = { p with
      evM := p.evM + 1, evN := if p.evN = 63 then 63 else p.evN + 1,
      evPhase := if p.evN = 63 then .done else .ovfScan } := by
  rw [Ppu.evAct_of_overflowScan hphase, Ppu.evOverflow, if_neg h, Ppu.nextSprite_eq]
  simp only [hphase]

theorem Ppu.nextSprite_overflow (p : Ppu) : p.nextSprite.overflow = p.overflow := by rw [Ppu.nextSprite_eq]

/-- No phase but the overflow scan touches the flag. -/
theorem Ppu.evAct_overflow_of_ne {p : Ppu} (h : p.evPhase ≠ .ovfScan) : p.evAct.overflow = p.overflow := by
  cases hphase : p.evPhase with
  | scan =>
    rw [Ppu.evAct_of_scan hphase, Ppu.evScan]
    split
    · rfl
    · rw [Ppu.nextSprite_overflow]
  | copy =>
    rw [Ppu.evAct_of_copy hphase, Ppu.evCopy]
    dsimp only
    split
    · rfl
    · rw [Ppu.nextSprite_overflow]
  | ovfScan => exact absurd hphase h
  | done => rw [Ppu.evAct_of_done hphase]

/-- An even dot of the evaluation lets the flag rise in the overflow scan, on a byte in range, or leaves it. -/
theorem Ppu.evAct_overflow (p : Ppu) :
    p.evAct.overflow = p.overflow ∨
      p.evPhase = .ovfScan ∧ p.inRange p.evLatch = true ∧ p.evAct.overflow = true ∧ p.evAct.evPhase = .done := by
  by_cases hphase : p.evPhase = .ovfScan
  · by_cases hr : p.inRange p.evLatch = true
    · right
      rw [Ppu.evAct_overflowScan_inRange hphase hr]
      exact ⟨hphase, hr, rfl, rfl⟩
    · left
      rw [Ppu.evAct_overflowScan_outOfRange hphase hr]
  · exact .inl (Ppu.evAct_overflow_of_ne hphase)

/-- The PPU acts on a latched byte at its dot: an even dot 66 to 256 with rendering enabled (R366, R370). -/
def Ppu.ActsOnLatch (p : Ppu) : Prop := p.rendering = true ∧ 66 ≤ p.dot ∧ p.dot ≤ 256 ∧ p.dot % 2 = 0

/-- What holds of each action of the evaluation at its dots, and of the PPU left as it is, holds after one dot of it. -/
theorem Ppu.evaluate_induction {P : Ppu → Prop} (p : Ppu) (keep : P p)
    (clear : 1 ≤ p.dot → p.dot ≤ 64 → P p.clearSecondary) (start : P p.startEvaluation.evRead) (read : P p.evRead)
    (act : p.ActsOnLatch → P p.evAct) (latch : P p.latchSprites) : P p.evaluate := by
  by_cases hlatch : p.dot = 257
  · rwa [Ppu.evaluate_latch hlatch]
  by_cases hrest : p.rendering = false ∨ p.dot = 0 ∨ 257 ≤ p.dot
  · rwa [Ppu.evaluate_rest hlatch hrest]
  obtain ⟨hr, hdot⟩ := not_or.1 hrest
  rw [Bool.not_eq_false] at hr
  by_cases hclear : p.dot ≤ 64
  · rw [Ppu.evaluate_clear hr (by omega) hclear]
    split
    · exact clear (by omega) hclear
    · exact keep
  by_cases hstart : p.dot = 65
  · rwa [Ppu.evaluate_start hr hstart]
  by_cases heven : p.dot % 2 = 0
  · rw [Ppu.evaluate_act hr (by omega) (by omega) heven]
    exact act ⟨hr, by omega, by omega, heven⟩
  · rwa [Ppu.evaluate_read hr (by omega) (by omega) (by omega)]

theorem Ppu.evaluate_overflow_of_not_acts {p : Ppu} (h : ¬ p.ActsOnLatch) : p.evaluate.overflow = p.overflow := by
  refine Ppu.evaluate_induction (P := fun q => q.overflow = p.overflow) p rfl (fun _ _ => rfl) ?start ?read
    (fun hacts => absurd hacts h) ?latch
  case start => rw [Ppu.evRead_frame]; rfl
  case read => rw [Ppu.evRead_frame]
  case latch => rw [Ppu.latchSprites_frame]

/-! The flag after a tick. -/

theorem flagStep_overflow (tv : TvSystem) (s : State) :
    (s.flagStep tv).ppu.overflow = if s.ppu.scanline = preRender tv ∧ s.ppu.dot = 1 then false else s.ppu.overflow := by
  have hpre := vblankLine_lt_preRender tv
  by_cases hvbl : s.ppu.scanline = 241 ∧ s.ppu.dot = 1
  · rw [State.flagStep_vblankDot hvbl.1 hvbl.2, State.startVblank_eq, if_neg (by omega)]
  · rw [State.flagStep_of_not_vblankDot hvbl]
    split <;> rfl

/-- On a visible line the flag is the evaluation's. -/
theorem ppuTick_overflow_visible {s : State} (h : s.ppu.scanline < 240) :
    s.ppuTick.ppu.overflow = s.ppu.evaluate.overflow := by
  have hdrawn : s.drawn.ppu = s.ppu.withPixel s.pixelStep.ppu.spr0Hit s.pixelStep.ppu.fb := by
    rw [State.drawn_visible h, State.pixelStep_frame]
    rfl
  have hvisible : (s.ppu.withPixel s.pixelStep.ppu.spr0Hit s.pixelStep.ppu.fb).scanline < 240 := h
  rw [State.ppuTick_overflow, hdrawn, Ppu.spriteStep_visible hvisible, Ppu.evaluate_withPixel]
  rfl

/-- Below the visible lines the flag falls at dot 1 of the pre-render line and stays otherwise. -/
theorem ppuTick_overflow_below {s : State} (h : ¬ s.ppu.scanline < 240) :
    s.ppuTick.ppu.overflow =
      if s.ppu.scanline = preRender s.cfg.header.tv ∧ s.ppu.dot = 1 then false else s.ppu.overflow := by
  have hdrawn : ¬ s.drawn.ppu.scanline < 240 := by
    rw [State.drawn_frame]
    exact h
  rw [← flagStep_overflow, State.ppuTick_overflow, Ppu.spriteStep_below hdrawn, State.drawn_frame]
  split <;> rfl

/-- On a visible line the flag stays, but where an overflow scan finds a byte in range. -/
theorem ppuTick_overflow_visible_cases {s : State} (hline : s.ppu.scanline < 240) :
    s.ppuTick.ppu.overflow = s.ppu.overflow ∨
      s.ppu.ActsOnLatch ∧ s.ppu.evPhase = .ovfScan ∧ s.ppu.inRange s.ppu.evLatch = true ∧
        s.ppuTick.ppu.overflow = true ∧ s.ppuTick.ppu.evPhase = .done := by
  rw [ppuTick_overflow_visible hline]
  by_cases hacts : s.ppu.ActsOnLatch
  · obtain ⟨hr, h66, h256, heven⟩ := hacts
    have hsprites := ppuTick_act hline hr h66 h256 heven
    rw [Ppu.evaluate_act hr h66 h256 heven, hsprites.evPhase]
    exact s.ppu.evAct_overflow.imp_right fun hrise => ⟨⟨hr, h66, h256, heven⟩, hrise⟩
  · exact .inl (Ppu.evaluate_overflow_of_not_acts hacts)

/-- Settles O53: the flag by the line, on a visible line by the phase that acts on the latched byte. -/
theorem overflowFlag : Obligations.OverflowFlag := by
  intro s p q last height
  have hlast : last = preRender s.cfg.header.tv := (preRender_eq _).symm
  refine ⟨fun hlow hhigh => ?rises, fun hhigh hlow => ?falls, fun hphase hline h66 h256 heven hr => ?scans⟩
  case rises =>
    by_cases hline : p.scanline < 240
    · rcases ppuTick_overflow_visible_cases hline with hsame | ⟨⟨hr, h66, h256, heven⟩, hphase, hrange, -, hdone⟩
      · exact absurd (hsame.symm.trans hhigh) (by rw [show s.ppu.overflow = false from hlow]; decide)
      · obtain ⟨hy, hheight⟩ := (p.inRange_iff p.evLatch).mp hrange
        exact ⟨hphase, hline, h66, h256, heven, p.rendering_iff.mp hr, hy, hheight, hdone⟩
    · have hbelow : q.overflow = _ := ppuTick_overflow_below hline
      rw [show s.ppu.overflow = false from hlow, ite_self, hhigh] at hbelow
      cases hbelow
  case falls =>
    by_cases hline : p.scanline < 240
    · rcases ppuTick_overflow_visible_cases hline with hsame | ⟨-, -, -, hrise, -⟩
      · exact absurd (hsame.symm.trans hlow) (by rw [show s.ppu.overflow = true from hhigh]; decide)
      · exact absurd (hrise.symm.trans hlow) (by decide)
    · have hbelow : q.overflow = _ := ppuTick_overflow_below hline
      rw [hlast]
      by_contra hnot
      rw [if_neg hnot, hlow] at hbelow
      exact absurd (hbelow.trans hhigh) (by decide)
  case scans =>
    have hrendering := p.rendering_iff.mpr hr
    have hsprites : q.SameSprites p.evAct := ppuTick_act hline hrendering h66 h256 heven
    have hflag : q.overflow = p.evAct.overflow := by
      rw [← Ppu.evaluate_act hrendering h66 h256 heven]
      exact ppuTick_overflow_visible hline
    have hrange : p.inRange p.evLatch = true ↔ p.evLatch.toNat ≤ p.scanline ∧ p.scanline - p.evLatch.toNat < height :=
      p.inRange_iff p.evLatch
    by_cases h : p.inRange p.evLatch = true
    · rw [if_pos (hrange.mp h)]
      rw [Ppu.evAct_overflowScan_inRange hphase h] at hsprites hflag
      exact ⟨hsprites.evFound, hsprites.secOam, hsprites.evSpr0, hflag, hsprites.evPhase, hsprites.evN, hsprites.evM⟩
    · rw [if_neg (mt hrange.mpr h)]
      rw [Ppu.evAct_overflowScan_outOfRange hphase h] at hsprites hflag
      have hm : q.evM = p.evM + 1 := hsprites.evM
      exact ⟨hsprites.evFound, hsprites.secOam, hsprites.evSpr0, hflag, by rw [hm]; exact BitVec.toNat_add _ _,
        hsprites.evN, hsprites.evPhase⟩

end Sys2Proof.Machine
end

section
/-! SUPPORT. The proof that every step keeps the invariant. It falls into two parts that a step's components keep one by one: what
bus accesses can change (`State.BusInv`), and what the PPU's ticks alone change, but for the fall of vblank (`Ppu.RenderInv`). -/

namespace Sys2Proof.Machine

/-! The parts of the invariant. -/

/-- The APU's part of the invariant: the frame sequencer is below its wrap value and both pulse sequencers are in order. -/
structure Apu.Ok (tv : TvSystem) (a : Apu) : Prop where
  sequencer : a.fsCycle < frameWrap tv a.fsMode
  pulse1 : a.p1.seqOk
  pulse2 : a.p2.seqOk

/-- The part of the invariant about what bus accesses can change, but for vblank. -/
structure State.BusInv (s : State) : Prop where
  ramFits : Memory.fits 2048 s.ram = true
  prgRamFits : Memory.fits s.cfg.prgRamSize s.prgRam = true
  chrRamFits : Memory.fits 8192 s.chrRam = true
  nametableFits : Memory.fits 4096 s.ppu.nt = true
  paletteFits : Memory.fits 32 s.ppu.palette = true
  oamFits : Memory.fits 256 s.ppu.oam = true
  suppression : s.ppu.suppressVbl = true → s.ppu.scanline = 241 ∧ s.ppu.dot = 1
  apuOk : s.apu.Ok s.cfg.header.tv
  serialCount : s.mapper.mmc1Count.toNat ≤ 4
  mirroring : s.mapper.mirroring = s.mirroring

/-- The part of the invariant about sprite evaluation and the latched sprites. -/
structure Ppu.SpritesOk (p : Ppu) : Prop where
  secondaryFits : Memory.fits 32 p.secOam = true
  lineSpritesFit : Memory.fits 32 p.lineSpr = true
  spriteIndex : p.evN ≤ 63
  evaluation : p.evaluationOk
  lineCount : p.lineCount ≤ 8

/-- vblank is set only between (241, 2) and dot 1 of the last line. -/
def Ppu.VblankInWindow (last : Nat) (p : Ppu) : Prop :=
  p.vblank = true →
    (p.scanline = 241 ∧ 2 ≤ p.dot) ∨ (241 < p.scanline ∧ p.scanline < last) ∨ (p.scanline = last ∧ p.dot ≤ 1)

/-- The part of the invariant about what the PPU's ticks alone change, on a raster whose last line is `last`. -/
structure Ppu.RenderInv (last : Nat) (p : Ppu) : Prop where
  sprites : p.SpritesOk
  frameFits : Memory.fits 245760 p.fb = true
  doneFrameFits : Memory.fits 245760 p.doneFb = true
  dotLegal : p.dot ≤ 340
  lineLegal : p.scanline ≤ last
  vblankWindow : p.VblankInWindow last

theorem State.Inv.bus {s : State} (h : s.Inv) : s.BusInv :=
  ⟨h.ramFits, h.prgRamFits, h.chrRamFits, h.nametableFits, h.paletteFits, h.oamFits, h.suppression,
    ⟨h.sequencer, h.pulse1, h.pulse2⟩, h.serialCount, h.mirroring⟩

theorem State.Inv.render {s : State} (h : s.Inv) : s.ppu.RenderInv s.lastLine :=
  ⟨⟨h.secondaryFits, h.lineSpritesFit, h.spriteIndex, h.evaluation, h.lineCount⟩, h.frameFits, h.doneFrameFits, h.dotLegal,
    h.lineLegal, h.vblankWindow⟩

theorem State.BusInv.inv {s : State} (h : s.BusInv) (hr : s.ppu.RenderInv s.lastLine) (hcount : s.cpu.countdown ≤ 512)
    (hfault : s.sys.phase = .faulted ↔ s.cpu.fault.isSome = true) : s.Inv where
  ramFits := h.ramFits
  prgRamFits := h.prgRamFits
  chrRamFits := h.chrRamFits
  nametableFits := h.nametableFits
  paletteFits := h.paletteFits
  oamFits := h.oamFits
  secondaryFits := hr.sprites.secondaryFits
  lineSpritesFit := hr.sprites.lineSpritesFit
  frameFits := hr.frameFits
  doneFrameFits := hr.doneFrameFits
  dotLegal := hr.dotLegal
  lineLegal := hr.lineLegal
  spriteIndex := hr.sprites.spriteIndex
  evaluation := hr.sprites.evaluation
  lineCount := hr.sprites.lineCount
  vblankWindow := hr.vblankWindow
  suppression := h.suppression
  sequencer := h.apuOk.sequencer
  pulse1 := h.apuOk.pulse1
  pulse2 := h.apuOk.pulse2
  serialCount := h.serialCount
  mirroring := h.mirroring
  countdown := hcount
  faulted := hfault

/-! The APU (51_apu.md R401 to R424). -/

theorem dutyPattern_rotateLeft_zero : ∀ d : BitVec 2, (dutyPattern d).rotateLeft 0 = dutyPattern d := by decide

/-- The sequencer at the start of its duty pattern. -/
theorem Pulse.seqOk_of_restart {ch : Pulse} (h : ch.seq = dutyPattern ch.duty) : ch.seqOk :=
  .inr ⟨0, by decide, h.trans (dutyPattern_rotateLeft_zero ch.duty).symm⟩

theorem Pulse.seqOk.congr {ch ch' : Pulse} (h : ch.seqOk) (hseq : ch'.seq = ch.seq) (hduty : ch'.duty = ch.duty) : ch'.seqOk := by
  unfold Pulse.seqOk
  rwa [hseq, hduty]

theorem dutyPattern_rotateLeft_one : ∀ (d : BitVec 2) (k : Fin 8),
    ((dutyPattern d).rotateLeft k.val).rotateLeft 1 = (dutyPattern d).rotateLeft ((k.val + 1) % 8) := by decide

theorem Pulse.timerClock_seqOk {ch : Pulse} (h : ch.seqOk) : ch.timerClock.seqOk := by
  unfold Pulse.timerClock
  split
  · rcases h with hzero | ⟨k, hk, hseq⟩
    · exact .inl (by simp [hzero])
    · refine .inr ⟨(k + 1) % 8, Nat.mod_lt _ (by decide), ?_⟩
      rw [hseq]
      exact dutyPattern_rotateLeft_one ch.duty ⟨k, hk⟩
  · exact h.congr rfl rfl

theorem Pulse.envelopeStep_seqOk {ch : Pulse} (h : ch.seqOk) : ch.envelopeStep.seqOk := by
  rw [Pulse.envelopeStep_eq]
  split_ifs <;> exact h.congr rfl rfl

theorem Pulse.lengthStep_seqOk {ch : Pulse} (h : ch.seqOk) : ch.lengthStep.seqOk := by
  rw [Pulse.lengthStep_eq]
  exact h.congr rfl rfl

theorem Pulse.sweepStep_seqOk (w : Channel) {ch : Pulse} (h : ch.seqOk) : (ch.sweepStep w).seqOk := by
  rw [Pulse.sweepStep, Pulse.sweepDivide_eq, Pulse.sweepCommit_eq]
  exact h.congr rfl rfl

theorem Pulse.perform_seqOk (w : Channel) (e : FrameEvent) {ch : Pulse} (h : ch.seqOk) : (ch.perform w e).seqOk := by
  cases e with
  | none => exact h
  | quarter => exact Pulse.envelopeStep_seqOk h
  | quarterHalf => exact Pulse.sweepStep_seqOk w (Pulse.lengthStep_seqOk (Pulse.envelopeStep_seqOk h))

theorem Pulse.writeReg_seqOk (r : BitVec 2) (v : Byte) {ch : Pulse} (h : ch.seqOk) : (ch.writeReg r v).seqOk := by
  unfold Pulse.writeReg
  split
  · exact Pulse.seqOk_of_restart rfl
  · exact h.congr rfl rfl
  · exact h.congr rfl rfl
  · exact Pulse.seqOk_of_restart rfl

section Apu

variable {tv : TvSystem} {a : Apu} (h : a.Ok tv)
include h

theorem Apu.Ok.perform (e : FrameEvent) : (a.perform e).Ok tv := by
  rw [Apu.perform_eq]
  exact ⟨h.sequencer, Pulse.perform_seqOk _ _ h.pulse1, Pulse.perform_seqOk _ _ h.pulse2⟩

theorem Apu.Ok.frameStep : (a.frameStep tv).Ok tv := by
  rw [Apu.frameStep_eq]
  refine ⟨?_, Pulse.perform_seqOk _ _ h.pulse1, Pulse.perform_seqOk _ _ h.pulse2⟩
  have hlt := h.sequencer
  have hpos := frameWrap_pos tv a.fsMode
  dsimp only
  split <;> omega

theorem Apu.Ok.timerStep : a.timerStep.Ok tv := by
  unfold Apu.timerStep
  split
  · exact ⟨h.sequencer, Pulse.timerClock_seqOk h.pulse1, Pulse.timerClock_seqOk h.pulse2⟩
  · exact ⟨h.sequencer, h.pulse1, h.pulse2⟩

theorem Apu.Ok.tick : (a.tick tv).Ok tv := h.frameStep.timerStep

theorem Apu.Ok.writePulse (w : Channel) (r : BitVec 2) (v : Byte) : (a.writePulse w r v).Ok tv := by
  cases w with
  | p1 => exact ⟨h.sequencer, Pulse.writeReg_seqOk r v h.pulse1, h.pulse2⟩
  | p2 => exact ⟨h.sequencer, h.pulse1, Pulse.writeReg_seqOk r v h.pulse2⟩

theorem Apu.Ok.writeStatus (v : Byte) : (a.writeStatus v).Ok tv :=
  ⟨h.sequencer, h.pulse1.congr rfl rfl, h.pulse2.congr rfl rfl⟩

theorem Apu.Ok.writeFrameCounter (v : Byte) : (a.writeFrameCounter v).Ok tv := by
  have hreset : { a with fsMode := v.getLsbD 7, fsCycle := 0 }.Ok tv := ⟨frameWrap_pos tv _, h.pulse1, h.pulse2⟩
  unfold Apu.writeFrameCounter
  dsimp only
  split
  · exact hreset.perform _
  · exact hreset

end Apu

/-! Indices stay inside their memories (20_memory.md R84, R102, R104; 21_mappers.md). -/

theorem ram_index_lt {a : Addr} {i : Nat} (h : cpuTarget a = .ram i) : i < 2048 := by
  by_cases ha : a.toNat < 0x2000
  · rw [cpuTarget_ram a ha, CpuTarget.ram.injEq] at h
    omega
  · simp only [cpuTarget, if_neg ha] at h
    split_ifs at h

theorem ntIndex_lt (m : Mirroring) (a : BitVec 14) : ntIndex m a < 4096 := by
  have htable : physicalTable m (a.toNat / 1024 % 4) < 4 := by
    cases m <;> simp only [physicalTable] <;> omega
  rw [ntIndex_eq]
  omega

theorem palIndex_lt (a : BitVec 14) : palIndex a < 32 := by
  rw [palIndex_eq]
  split <;> omega

theorem chrOffset_lt {c : CartConfig} (hram : c.chrIsRam = true) (m : Mapper) (a : BitVec 14) : chrOffset c m a < 8192 := by
  have hsize : c.chrSize = 8192 := if_pos hram
  by_cases hm : c.header.mapper = .mmc1
  · simp only [chrOffset, hm, mmc1ChrOffset, hsize]
    exact Nat.mod_lt _ (by decide)
  · rw [chrOffset_of_ne_mmc1 hm, hsize]
    exact Nat.mod_lt _ (by decide)

theorem prgRamIndex_lt {c : CartConfig} {m : Mapper} {a : Addr} {i : Nat} (h : prgRamIndex c m a = some i) :
    i < c.prgRamSize := by
  have hpos : 0 < max 1 c.header.prgRamUnits := by omega
  unfold CartConfig.prgRamSize
  cases hm : c.header.mapper with
  | nrom =>
    rw [prgRamIndex_nrom hm] at h
    split at h
    · cases h
      omega
    · cases h
  | mmc1 =>
    rw [prgRamIndex_mmc1 hm] at h
    cases h
    have hbank := Nat.mod_lt (m.mmc1Chr0.toNat / 4 % 4) hpos
    omega
  | uxrom => rw [prgRamIndex_none (.inl hm)] at h; cases h
  | axrom => rw [prgRamIndex_none (.inr hm)] at h; cases h
  | unsupported => simp only [prgRamIndex, hm, reduceCtorEq] at h

/-! Bus reads (20_memory.md R82): of the invariant's fields, the suppression alone. -/

theorem ppuRegRead_suppressVbl {r : BitVec 3} {s : State} (h : (s.ppuRegRead r).2.ppu.suppressVbl = true) :
    s.ppu.suppressVbl = true ∨ s.ppu.scanline = 241 ∧ s.ppu.dot = 1 := by
  unfold State.ppuRegRead at h
  split at h
  · rw [readStatus_state] at h
    simpa using h
  · exact .inl h
  · unfold State.readData at h
    dsimp only at h
    split at h <;> exact .inl h
  · exact .inl h

theorem cpuRead_suppressVbl {a : Addr} {s : State} (h : (cpuRead a s).2.ppu.suppressVbl = true) :
    s.ppu.suppressVbl = true ∨ s.ppu.scanline = 241 ∧ s.ppu.dot = 1 := by
  unfold cpuRead at h
  split at h
  case h_2 => exact ppuRegRead_suppressVbl h
  case h_9 =>
    unfold State.cartRamRead at h
    split at h <;> exact .inl h
  all_goals exact .inl h

section Bus

variable {s : State} (h : s.BusInv)
include h

/-- The CPU, the system block and the count of free values have no part in it. -/
theorem State.BusInv.withCpuSys (c : Cpu) (y : Sys) (n : Nat) : { s with cpu := c, sys := y, draws := n }.BusInv :=
  ⟨h.ramFits, h.prgRamFits, h.chrRamFits, h.nametableFits, h.paletteFits, h.oamFits, h.suppression, h.apuOk, h.serialCount,
    h.mirroring⟩

theorem State.BusInv.setPpu {p : Ppu} (hnt : Memory.fits 4096 p.nt = true) (hpal : Memory.fits 32 p.palette = true)
    (hoam : Memory.fits 256 p.oam = true) (hsup : p.suppressVbl = true → p.scanline = 241 ∧ p.dot = 1) : (s.setPpu p).BusInv :=
  ⟨h.ramFits, h.prgRamFits, h.chrRamFits, hnt, hpal, hoam, hsup, h.apuOk, h.serialCount, h.mirroring⟩

theorem State.BusInv.setApu {a : Apu} (ha : a.Ok s.cfg.header.tv) : (s.setApu a).BusInv :=
  ⟨h.ramFits, h.prgRamFits, h.chrRamFits, h.nametableFits, h.paletteFits, h.oamFits, h.suppression, ha, h.serialCount, h.mirroring⟩

theorem State.BusInv.setMapper {m : Mapper} (hcount : m.mmc1Count.toNat ≤ 4)
    (hmirroring : m.mirroring = (s.setMapper m).mirroring) : (s.setMapper m).BusInv :=
  ⟨h.ramFits, h.prgRamFits, h.chrRamFits, h.nametableFits, h.paletteFits, h.oamFits, h.suppression, h.apuOk, hcount, hmirroring⟩

theorem State.BusInv.read (a : Addr) : (cpuRead a s).2.BusInv := by
  have hread := cpuRead_readsOnly a s
  have hsup : (cpuRead a s).2.ppu.suppressVbl = true → s.ppu.scanline = 241 ∧ s.ppu.dot = 1 := fun hr =>
    (cpuRead_suppressVbl hr).elim h.suppression id
  generalize (cpuRead a s).2 = t at hread hsup
  have hppu : (s.setPpu (s.afterReads t).ppu).BusInv :=
    h.setPpu h.nametableFits h.paletteFits h.oamFits fun hr => hsup (by rw [hread]; exact hr)
  rw [hread]
  exact hppu.withCpuSys _ _ _

/-! Bus writes (20_memory.md R83). -/

theorem State.BusInv.ppuWrite (a : BitVec 14) (v : Byte) : (s.ppuWrite a v).BusInv := by
  unfold State.ppuWrite
  split
  · unfold State.chrWrite
    split
    · next hram =>
      exact ⟨h.ramFits, h.prgRamFits, Memory.fits_write _ _ _ v h.chrRamFits (chrOffset_lt hram _ _), h.nametableFits,
        h.paletteFits, h.oamFits, h.suppression, h.apuOk, h.serialCount, h.mirroring⟩
    · exact h
  · split
    · exact h.setPpu (Memory.fits_write _ _ _ v h.nametableFits (ntIndex_lt _ _)) h.paletteFits h.oamFits h.suppression
    · exact h.setPpu h.nametableFits (Memory.fits_write _ _ _ v h.paletteFits (palIndex_lt _)) h.oamFits h.suppression

theorem State.BusInv.ppuRegWrite (r : BitVec 3) (v : Byte) : (s.ppuRegWrite r v).BusInv := by
  unfold State.ppuRegWrite
  split
  · exact h.setPpu h.nametableFits h.paletteFits h.oamFits h.suppression
  · exact h.setPpu h.nametableFits h.paletteFits h.oamFits h.suppression
  · exact h
  · exact h.setPpu h.nametableFits h.paletteFits h.oamFits h.suppression
  · exact h.setPpu h.nametableFits h.paletteFits (Memory.fits_write _ _ _ v h.oamFits (BitVec.isLt _)) h.suppression
  · unfold Ppu.writeScroll
    split <;> exact h.setPpu h.nametableFits h.paletteFits h.oamFits h.suppression
  · unfold Ppu.writeAddr
    split <;> exact h.setPpu h.nametableFits h.paletteFits h.oamFits h.suppression
  · have hw := h.ppuWrite s.ppu.vAddr v
    exact hw.setPpu hw.nametableFits hw.paletteFits hw.oamFits hw.suppression

theorem State.BusInv.dmaByte (page : Byte) (i : Nat) : (dmaByte page s i).BusInv := by
  have hr := h.read (page ++ BitVec.ofNat 8 i)
  exact hr.setPpu hr.nametableFits hr.paletteFits (Memory.fits_write _ _ _ _ hr.oamFits (BitVec.isLt _)) hr.suppression

omit h in
theorem State.BusInv.dmaFold (page : Byte) (l : List Nat) {s : State} (h : s.BusInv) :
    (l.foldl (Machine.dmaByte page) s).BusInv := by
  induction l generalizing s with
  | nil => exact h
  | cons i rest ih => exact ih (h.dmaByte page i)

theorem State.BusInv.romWrite (a : Addr) (v : Byte) : (s.romWrite a v).BusInv := by
  have hcount := h.serialCount
  unfold State.romWrite
  split
  · exact h
  · exact h
  · next hm =>
    refine h.setMapper ?_ ?_
    · rw [Mapper.mmc1Write_eq]
      split_ifs with h7 h5
      · exact Nat.zero_le _
      · exact Nat.zero_le _
      · show (s.mapper.mmc1Count + 1).toNat ≤ 4
        bv_omega
    · rw [State.mirroring_setMapper_mmc1 hm, Mapper.mmc1Write_eq]
      split_ifs <;> rfl
  · next hm =>
    have hfixed : s.mirroring = s.cfg.header.mirroring := mirroring_of_fixed (.inr hm)
    exact h.setMapper hcount ((h.mirroring.trans hfixed).trans (mirroring_of_fixed (s := s.setMapper _) (.inr hm)).symm)
  · next hm =>
    refine h.setMapper hcount ?_
    simp only [State.mirroring, State.setMapper_cfg, State.setMapper_mapper, hm]

theorem State.BusInv.write (a : Addr) (v : Byte) : (cpuWrite a v s).BusInv := by
  unfold cpuWrite
  split
  · next i htarget =>
    exact ⟨Memory.fits_write _ _ _ v h.ramFits (ram_index_lt htarget), h.prgRamFits, h.chrRamFits, h.nametableFits,
      h.paletteFits, h.oamFits, h.suppression, h.apuOk, h.serialCount, h.mirroring⟩
  · exact h.ppuRegWrite _ v
  · exact h.setApu (h.apuOk.writePulse _ _ v)
  · exact (h.dmaFold v (List.range 256)).withCpuSys _ _ _
  · exact h.setApu (h.apuOk.writeStatus v)
  · exact h.withCpuSys _ _ _
  · exact h.setApu (h.apuOk.writeFrameCounter v)
  · exact h
  · unfold State.cartRamWrite
    split
    · next i hi =>
      exact ⟨h.ramFits, Memory.fits_write _ _ _ v h.prgRamFits (prgRamIndex_lt hi), h.chrRamFits, h.nametableFits,
        h.paletteFits, h.oamFits, h.suppression, h.apuOk, h.serialCount, h.mirroring⟩
    · exact h
  · exact h.romWrite a v

end Bus

/-- Bus accesses and register changes keep their part of the invariant. -/
theorem Accesses.busInv {w : Bool} {s t : State} (h : Accesses w s t) (hs : s.BusInv) : t.BusInv := by
  induction h with
  | @registers s t h =>
    rw [h.eq]
    exact hs.withCpuSys _ _ _
  | read a s => exact hs.read a
  | write _ a v s => exact hs.write a v
  | trans _ _ ih ih' => exact ih' (ih hs)

/-- Of the PPU's own part they can only let vblank fall. -/
theorem Accesses.renderInv {w : Bool} {s t : State} (h : Accesses w s t) {last : Nat} (hs : s.ppu.RenderInv last) :
    t.ppu.RenderInv last := by
  have hppu : (t.withRegisters s.cpu).ppu = (s.afterBus t).ppu := by rw [h.bus_eq]
  change t.ppu = _ at hppu
  rw [hppu]
  exact ⟨⟨hs.sprites.secondaryFits, hs.sprites.lineSpritesFit, hs.sprites.spriteIndex, hs.sprites.evaluation,
    hs.sprites.lineCount⟩, hs.frameFits, hs.doneFrameFits, hs.dotLegal, hs.lineLegal,
    fun hv => hs.vblankWindow (Bool.and_eq_true .. ▸ hv).1⟩

/-! Sprite evaluation (50_ppu.md R366 to R370). -/

theorem Ppu.evaluationOk.found_le {p : Ppu} (h : p.evaluationOk) : p.evFound ≤ 8 := by
  unfold Ppu.evaluationOk at h
  split at h <;> omega

section Sprites

variable {p : Ppu} (h : p.SpritesOk)
include h

theorem Ppu.SpritesOk.nextSprite : p.nextSprite.SpritesOk := by
  have hn := h.spriteIndex
  unfold Ppu.nextSprite
  split
  · exact ⟨h.secondaryFits, h.lineSpritesFit, hn, h.evaluation.found_le, h.lineCount⟩
  · exact ⟨h.secondaryFits, h.lineSpritesFit, show p.evN + 1 ≤ 63 by omega, h.evaluation, h.lineCount⟩

theorem Ppu.SpritesOk.evRead : p.evRead.SpritesOk := by
  rw [Ppu.evRead_eq]
  exact ⟨h.secondaryFits, h.lineSpritesFit, h.spriteIndex, h.evaluation, h.lineCount⟩

theorem Ppu.SpritesOk.startEvaluation : p.startEvaluation.SpritesOk :=
  ⟨h.secondaryFits, h.lineSpritesFit, show 0 ≤ 63 by decide, show 0 < 8 ∧ (0 : BitVec 2) = 0 by decide, h.lineCount⟩

theorem Ppu.SpritesOk.writeSecondary {i : Nat} (hi : i < 32) (v : Byte) : { p with secOam := p.secOam.write i v }.SpritesOk :=
  ⟨Memory.fits_write _ _ _ v h.secondaryFits hi, h.lineSpritesFit, h.spriteIndex, h.evaluation, h.lineCount⟩

theorem Ppu.SpritesOk.latchSprites : p.latchSprites.SpritesOk := by
  unfold Ppu.latchSprites
  split
  · exact ⟨h.secondaryFits, h.secondaryFits, h.spriteIndex, h.evaluation, h.evaluation.found_le⟩
  · exact ⟨h.secondaryFits, h.lineSpritesFit, h.spriteIndex, h.evaluation, Nat.zero_le _⟩

theorem Ppu.SpritesOk.evScan (hphase : p.evPhase = .scan) : p.evAct.SpritesOk := by
  obtain ⟨hfound, hm⟩ : p.evFound < 8 ∧ p.evM = 0 := by simpa only [Ppu.evaluationOk, hphase] using h.evaluation
  have hw := h.writeSecondary (show 4 * p.evFound < 32 by omega) p.evLatch
  by_cases hr : p.inRange p.evLatch = true
  · rw [Ppu.evAct_scan_inRange hphase hr]
    exact ⟨hw.secondaryFits, h.lineSpritesFit, h.spriteIndex, ⟨hfound, show (1 : BitVec 2) ≠ 0 by decide⟩, h.lineCount⟩
  · rw [Ppu.evAct_scan_outOfRange hphase hr]
    exact hw.nextSprite

theorem Ppu.SpritesOk.evCopy (hphase : p.evPhase = .copy) : p.evAct.SpritesOk := by
  obtain ⟨hfound, hm⟩ : p.evFound < 8 ∧ p.evM ≠ 0 := by simpa only [Ppu.evaluationOk, hphase] using h.evaluation
  by_cases h3 : p.evM = 3
  · have hw := h.writeSecondary (show 4 * p.evFound + 3 < 32 by omega) p.evLatch
    have hcopied : { p with
        secOam := p.secOam.write (4 * p.evFound + 3) p.evLatch, evM := 0, evFound := p.evFound + 1,
        evPhase := if p.evFound + 1 = 8 then .ovfScan else .scan }.evaluationOk := by
      by_cases h8 : p.evFound + 1 = 8
      · simp only [Ppu.evaluationOk, h8, if_true]
      · simp only [Ppu.evaluationOk, h8, if_false]
        exact ⟨by omega, trivial⟩
    rw [Ppu.evAct_copy_last hphase h3]
    exact Ppu.SpritesOk.nextSprite ⟨hw.secondaryFits, h.lineSpritesFit, h.spriteIndex, hcopied, h.lineCount⟩
  · have hlt : p.evM.toNat < 3 := by bv_omega
    have hw := h.writeSecondary (show 4 * p.evFound + p.evM.toNat < 32 by omega) p.evLatch
    have hnext : p.evM + 1 ≠ 0 := by bv_omega
    rw [Ppu.evAct_copy hphase hlt]
    refine ⟨hw.secondaryFits, h.lineSpritesFit, h.spriteIndex, ?_, h.lineCount⟩
    simp only [Ppu.evaluationOk, hphase]
    exact ⟨hfound, hnext⟩

theorem Ppu.SpritesOk.evOverflow (hphase : p.evPhase = .ovfScan) : p.evAct.SpritesOk := by
  have hfound : p.evFound = 8 := by simpa only [Ppu.evaluationOk, hphase] using h.evaluation
  by_cases hr : p.inRange p.evLatch = true
  · rw [Ppu.evAct_overflowScan_inRange hphase hr]
    exact ⟨h.secondaryFits, h.lineSpritesFit, h.spriteIndex, hfound.le, h.lineCount⟩
  · have hmoved : { p with evM := p.evM + 1 }.evaluationOk := by simpa only [Ppu.evaluationOk, hphase] using hfound
    have hact : p.evAct = { p with evM := p.evM + 1 }.nextSprite := (Ppu.evAct_of_overflowScan hphase).trans (if_neg hr)
    rw [hact]
    exact Ppu.SpritesOk.nextSprite ⟨h.secondaryFits, h.lineSpritesFit, h.spriteIndex, hmoved, h.lineCount⟩

theorem Ppu.SpritesOk.evAct : p.evAct.SpritesOk := by
  cases hphase : p.evPhase with
  | scan => exact h.evScan hphase
  | copy => exact h.evCopy hphase
  | ovfScan => exact h.evOverflow hphase
  | done => rwa [Ppu.evAct_of_done hphase]

theorem Ppu.SpritesOk.evaluate : p.evaluate.SpritesOk :=
  p.evaluate_induction (P := Ppu.SpritesOk) h (fun _ _ => h.writeSecondary (by omega) 0xFF) h.startEvaluation.evRead h.evRead
    (fun _ => h.evAct) h.latchSprites

theorem Ppu.SpritesOk.spriteStep (tv : TvSystem) : (p.spriteStep tv).SpritesOk := by
  by_cases hline : p.scanline < 240
  · rw [Ppu.spriteStep_visible hline]
    exact h.evaluate
  · rw [Ppu.spriteStep_below hline]
    split
    · exact ⟨h.secondaryFits, h.lineSpritesFit, h.spriteIndex, h.evaluation, Nat.zero_le _⟩
    · exact h

end Sprites

theorem Ppu.SameSprites.spritesOk {p q : Ppu} (hq : q.SameSprites p) (h : p.SpritesOk) : q.SpritesOk := by
  refine ⟨by rw [hq.secOam]; exact h.secondaryFits, by rw [hq.lineSpr]; exact h.lineSpritesFit,
    by rw [hq.evN]; exact h.spriteIndex, ?_, by rw [hq.lineCount]; exact h.lineCount⟩
  rw [Ppu.evaluationOk, hq.evPhase, hq.evFound, hq.evM]
  exact h.evaluation

/-! A PPU tick (50_ppu.md R350). -/

theorem writePixel_fits {fb : Memory} (h : Memory.fits 245760 fb = true) {x y : Nat} (hx : x < 256) (hy : y < 240) (c : Rgb) :
    Memory.fits 245760 (writePixel fb x y c) = true :=
  Memory.fits_write _ _ _ _ (Memory.fits_write _ _ _ _ (Memory.fits_write _ _ _ _ (Memory.fits_write _ _ _ _ h
    (by omega)) (by omega)) (by omega)) (by omega)

theorem ppuTick_fb_fits {s : State} (h : Memory.fits 245760 s.ppu.fb = true) : Memory.fits 245760 s.ppuTick.ppu.fb = true := by
  rw [State.ppuTick_fb]
  by_cases hvisible : s.ppu.scanline < 240 ∧ 1 ≤ s.ppu.dot ∧ s.ppu.dot ≤ 256
  · rw [State.drawn_pixel hvisible]
    exact writePixel_fits h (by omega) hvisible.1 _
  · rw [State.drawn_blank hvisible, State.flagStep_frame]
    exact h

/-- Where the position goes in a tick, and when a frame is done (R360 to R362). -/
theorem ppuTick_position_cases (s : State) :
    (s.ppuTick.ppu.doneFb = s.ppu.doneFb ∨ s.ppuTick.ppu.doneFb = s.ppuTick.ppu.fb) ∧
    ((s.ppu.scanline = s.lastLine ∧ s.ppu.dot = 338 ∧ s.ppuTick.ppu.dot = 340 ∧
        s.ppuTick.ppu.scanline = s.ppu.scanline) ∨
      (s.ppu.dot ≠ 340 ∧ s.ppuTick.ppu.dot = s.ppu.dot + 1 ∧ s.ppuTick.ppu.scanline = s.ppu.scanline) ∨
      (s.ppu.dot = 340 ∧ s.ppu.scanline ≠ s.lastLine ∧ s.ppuTick.ppu.dot = 0 ∧
        s.ppuTick.ppu.scanline = s.ppu.scanline + 1) ∨
      (s.ppu.dot = 340 ∧ s.ppu.scanline = s.lastLine ∧ s.ppuTick.ppu.dot = 0 ∧ s.ppuTick.ppu.scanline = 0)) := by
  have hlines : s.lastLine + 1 = linesPerFrame s.cfg.header.tv := by
    rw [State.lastLine]
    cases s.cfg.header.tv <;> rfl
  by_cases hskip : s.ppu.skipsDot s.cfg.header.tv = true
  · obtain ⟨htv, hline, hdot, -, -⟩ := (Ppu.skipsDot_iff _ _).1 hskip
    have hlast : s.lastLine = 261 := by rw [State.lastLine, htv]; rfl
    rw [State.ppuTick_skip hskip, hlast]
    exact ⟨.inl s.scrolled_doneFb, .inl ⟨hline, hdot, rfl, s.scrolled_scanline⟩⟩
  by_cases hdot : s.ppu.dot = 340
  · by_cases hline : s.ppu.scanline + 1 = linesPerFrame s.cfg.header.tv
    · rw [State.ppuTick_frameEnd hdot hline]
      exact ⟨.inr rfl, .inr (.inr (.inr ⟨hdot, show s.ppu.scanline = s.lastLine by omega, rfl, rfl⟩))⟩
    · rw [State.ppuTick_lineEnd hdot hline]
      exact ⟨.inl s.scrolled_doneFb, .inr (.inr (.inl ⟨hdot, show s.ppu.scanline ≠ s.lastLine by omega, rfl, rfl⟩))⟩
  · rw [State.ppuTick_dot hskip hdot]
    exact ⟨.inl s.scrolled_doneFb, .inr (.inl ⟨hdot, rfl, s.scrolled_scanline⟩)⟩

theorem ppuTick_vblankWindow {s : State} (h : s.ppu.RenderInv s.lastLine) : s.ppuTick.ppu.VblankInWindow s.lastLine := by
  intro hvblank
  have hpre : preRender s.cfg.header.tv = s.lastLine := rfl
  have hlast := vblankLine_lt_preRender s.cfg.header.tv
  obtain ⟨-, hposition⟩ := ppuTick_position_cases s
  by_cases hrise : s.ppu.scanline = 241 ∧ s.ppu.dot = 1
  · omega
  by_cases hfall : s.ppu.scanline = preRender s.cfg.header.tv ∧ s.ppu.dot = 1
  · obtain ⟨hlow, -, -⟩ := ppuTick_at_preRenderDot hfall.1 hfall.2
    exact absurd (hvblank.symm.trans hlow) (by decide)
  · obtain ⟨-, -, hkept⟩ := ppuTick_elsewhere hrise
    have hwindow := h.vblankWindow ((hkept hfall).symm.trans hvblank)
    omega

theorem ppuTick_renderInv {s : State} (h : s.ppu.RenderInv s.lastLine) : s.ppuTick.ppu.RenderInv s.lastLine := by
  have hlast := vblankLine_lt_preRender s.cfg.header.tv
  have hpre : preRender s.cfg.header.tv = s.lastLine := rfl
  have hdot := h.dotLegal
  have hline := h.lineLegal
  have hfb := ppuTick_fb_fits h.frameFits
  obtain ⟨hdone, hposition⟩ := ppuTick_position_cases s
  refine ⟨s.ppuTick_sameSprites.spritesOk (h.sprites.spriteStep _), hfb, ?_, by omega, by omega, ppuTick_vblankWindow h⟩
  rcases hdone with hdone | hdone
  · rw [hdone]; exact h.doneFrameFits
  · rw [hdone]; exact hfb

theorem ppuTick_memories (s : State) :
    s.ppuTick.ppu.nt = s.ppu.nt ∧ s.ppuTick.ppu.palette = s.ppu.palette ∧ s.ppuTick.ppu.oam = s.ppu.oam := by
  rw [State.ppuTick_frame, State.scrolled_frame, Ppu.spriteStep_frame, State.drawn_frame]
  exact ⟨rfl, rfl, rfl⟩

/-- After a tick no suppression is pending: it lives at (241, 1) alone (R353). -/
theorem ppuTick_not_suppressed {s : State} (h : s.ppu.suppressVbl = true → s.ppu.scanline = 241 ∧ s.ppu.dot = 1) :
    s.ppuTick.ppu.suppressVbl = false := by
  by_cases hrise : s.ppu.scanline = 241 ∧ s.ppu.dot = 1
  · obtain ⟨-, hcleared, -⟩ := ppuTick_at_vblankDot hrise.1 hrise.2
    exact hcleared
  · obtain ⟨-, hkept, -⟩ := ppuTick_elsewhere hrise
    rw [hkept]
    exact Bool.eq_false_iff.mpr (mt h hrise)

theorem ppuTick_busInv {s : State} (h : s.BusInv) : s.ppuTick.BusInv := by
  obtain ⟨hnt, hpal, hoam⟩ := ppuTick_memories s
  have hppu : (s.setPpu s.ppuTick.ppu).BusInv :=
    h.setPpu (by rw [hnt]; exact h.nametableFits) (by rw [hpal]; exact h.paletteFits) (by rw [hoam]; exact h.oamFits)
      fun hsup => absurd (hsup.symm.trans (ppuTick_not_suppressed h.suppression)) (by decide)
  rw [State.ppuTick_eq]
  exact hppu.withCpuSys _ _ _

/-! A step (55_system_tick.md R452). -/

/-- The invariant but for the CPU's countdown and the fault record: what every component of a step keeps. -/
structure State.DevicesInv (s : State) : Prop where
  bus : s.BusInv
  render : s.ppu.RenderInv s.lastLine

theorem ppuTick_devicesInv {s : State} (h : s.DevicesInv) : s.ppuTick.DevicesInv := by
  have hlast : s.ppuTick.lastLine = s.lastLine := by rw [State.ppuTick_eq]; rfl
  refine ⟨ppuTick_busInv h.bus, ?_⟩
  rw [hlast]
  exact ppuTick_renderInv h.render

theorem ppuPart_devicesInv {s : State} (h : s.DevicesInv) : (ppuPart s).DevicesInv := by
  unfold ppuPart
  split
  · exact ppuTick_devicesInv h
  · exact h

theorem CpuTicked.devicesInv {s t : State} (h : CpuTicked s t) (hs : s.DevicesInv) : t.DevicesInv := by
  obtain ⟨v, hv, ht⟩ := h.reached
  have hlast : v.lastLine = s.lastLine := by rw [State.lastLine, hv.cfg]; rfl
  rw [ht]
  exact ⟨(hv.busInv hs.bus).withCpuSys _ _ _, show v.ppu.RenderInv v.lastLine from hlast ▸ hv.renderInv hs.render⟩

theorem apuPart_devicesInv {s : State} (h : s.DevicesInv) : (apuPart s).DevicesInv := by
  unfold apuPart
  split
  · exact ⟨h.bus.setApu h.bus.apuOk.tick, h.render⟩
  · exact h

/-- The PPU part of a unit raises or keeps the NMI request and changes nothing else of the CPU. -/
theorem ppuPart_cpu (s : State) : (ppuPart s).cpu = { s.cpu with nmiPending := (ppuPart s).cpu.nmiPending } := by
  unfold ppuPart
  split
  · rw [State.ppuTick_cpu, State.flagStep_frame]
  · rfl

/-- After a CPU tick of a machine that was not faulted, the fault record and the phase agree again. -/
theorem CpuTicked.faulted_iff {s t : State} (h : CpuTicked s t) (hphase : s.sys.phase ≠ .faulted)
    (hfault : s.cpu.fault.isSome ≠ true) : t.sys.phase = .faulted ↔ t.cpu.fault.isSome = true := by
  rcases h.phase with ⟨hkept, hsame⟩ | ⟨hfaulted, hrecord⟩
  · rw [hkept, hsame]
    exact iff_of_false hphase hfault
  · exact iff_of_true hfaulted hrecord

/-- Settles O34: PPU tick, CPU tick and APU tick each keep the devices' part; the CPU tick keeps the bound on the countdown and
writes the fault record with the phase. -/
theorem stepKeepsInvariant : Obligations.StepKeepsInvariant := by
  intro s t hs hstep
  have hphase : s.sys.phase ≠ .faulted := by rw [(runnable_of_step hstep).1]; decide
  have hfault : s.cpu.fault.isSome ≠ true := mt hs.faulted.2 hphase
  have hdevices : (ppuPart s).DevicesInv := ppuPart_devicesInv ⟨hs.bus, hs.render⟩
  have hcount : (ppuPart s).cpu.countdown ≤ 512 := by rw [ppuPart_cpu]; exact hs.countdown
  rw [← ppuPart_sys] at hphase
  rw [show s.cpu.fault = (ppuPart s).cpu.fault by rw [ppuPart_cpu]] at hfault
  obtain ⟨u, rfl, hu⟩ := step_cases hstep
  suffices hparts : u.DevicesInv ∧ u.cpu.countdown ≤ 512 ∧ (u.sys.phase = .faulted ↔ u.cpu.fault.isSome = true) by
    obtain ⟨⟨hbus, hrender⟩, hcount, hfault⟩ := hparts
    exact (hbus.withCpuSys _ _ _).inv hrender hcount hfault
  rcases hu with rfl | ⟨v, hv, rfl⟩
  · exact ⟨hdevices, hcount, iff_of_false hphase hfault⟩
  · refine ⟨apuPart_devicesInv (hv.devicesInv hdevices), ?_⟩
    rw [apuPart_eq]
    exact ⟨hv.countdown hcount, hv.faulted_iff hphase hfault⟩

end Sys2Proof.Machine
end
